-- ==== Sys2Proof/Word.lean ====
section
/-! DEFINITION. The word type: bytes, as the link payloads, the configuration block and the Service Line carry them. -/

namespace Sys2Proof

/-- One byte of a payload, of the configuration block or of the Service Line. -/
abbrev Byte := BitVec 8

end Sys2Proof
end

