-- ==== Sys2Proof/Syntax.lean ====
section
/-! DEFINITION. The commands of the block: one constructor per row of spec/opcode_table.json, with the operands the row's rule speaks of. -/

namespace Sys2Proof

/-- The three shared plant resources, in the order every table and payload uses (file 00, Resources and classes). -/
inductive Resource where
  | cool | heat | power
deriving DecidableEq, Repr

/-- The three duty channels (R146). -/
inductive DutyChannel where
  | blower | heatValve | coolValve
deriving DecidableEq, Repr

/-- The three thermistor inputs THRET, THDIS and THOUT (R122). -/
inductive Sensor where
  | returnAir | discharge | outdoor
deriving DecidableEq, Repr

/-- What a receiver's framing failure was made of (R76): a stuff violation of six recessive or of six dominant bits, or a length above 40. -/
inductive FramingCause where
  | stuffRecessive | stuffDominant | lengthAbove40
deriving DecidableEq, Repr

/-- What a receiver has assembled of a frame, apart from its kind (R67): the urgency and source of the arbitration field, the payload bytes (their number is the length field) and the 16 check bits. -/
structure RxBody where
  urgency : BitVec 2
  source : BitVec 6
  payload : List Byte
  check : BitVec 16
deriving DecidableEq, Repr

/-- What stations other than this one drive dominant in the three slots of a frame (R77 to R79). -/
structure Slots where
  ack : Bool
  fault : Bool
  veto : Bool
deriving DecidableEq, Repr

/-- A Service Line message of the row's command: its payload bytes and its checksum byte (R181). -/
structure ServiceMessage where
  payload : List Byte
  checksum : Byte
deriving DecidableEq, Repr

/-- The commands. Each constructor is the row of the same name. -/
inductive Instr where
  | vlogFall
  | vlogRise
  | resetnLow
  | resetnHigh
  | supplySample (value : Nat)
  | recoveryTimerExpiry
  | readyPollStatus (status : Byte)
  | configReadEnd (block : List Byte)
  | configReadTimeout
  | linkIdle
  | transmissionStart
  | arbitrationLost
  | bitError
  | framingFailure (cause : FramingCause)
  | requestJudged (heard : Option RxBody)
  | malformedArrival (kind : BitVec 3) (body : RxBody) (slots : Slots)
  | voidArrival (kind : BitVec 3) (body : RxBody) (slots : Slots)
  | addressClash (kind : BitVec 3) (body : RxBody) (slots : Slots)
  | requestArrival (body : RxBody) (slots : Slots)
  | releaseArrival (body : RxBody) (slots : Slots)
  | supplyArrival (body : RxBody) (slots : Slots)
  | setpointArrival (body : RxBody) (slots : Slots)
  | stateArrival (body : RxBody) (slots : Slots)
  | joinArrival (body : RxBody) (slots : Slots)
  | parkArrival (body : RxBody) (slots : Slots)
  | wakeArrival (body : RxBody) (slots : Slots)
  | ownRequestCompletion (ack veto : Bool)
  | ownReleaseCompletion (ack : Bool)
  | ownSupplyCompletion (ack : Bool)
  | ownSetpointCompletion (ack : Bool)
  | ownParkCompletion (ack : Bool)
  | ownJoinCompletion (ack : Bool)
  | ownStateCompletion (ack : Bool)
  | ownWakeCompletion (ack : Bool)
  | voidCompletion
  | ageTickExpiry
  | untrackedTimerExpiry
  | supplyTimerExpiry (resource : Resource)
  | stateTimerExpiry
  | refusalHoldOffExpiry (resource : Resource)
  | spacingExpiry (resource : Resource)
  | settleTimerExpiry
  | censusTimerExpiry
  | selfSilenceExpiry
  | quietTimerExpiry
  | wakeTimerExpiry
  | sampleTimerExpiry (count : BitVec 12)
  | wakeinActive
  | controlIntervalExpiry
  | switchTimerExpiry
  | boostTimerExpiry
  | doorInputChange (active : Bool)
  | holdTimerExpiry
  | frostTimerExpiry
  | sensorSample (sensor : Sensor) (count : BitVec 12)
  | periodEnd (channel : DutyChannel)
  | coolValveRestEnd
  | stepTimerExpiry (endStop : Bool)
  | deadTimerExpiry
  | dmpendActive
  | tachEdge
  | stallTimerExpiry
  | restartTimerExpiry
  | goodRunTimerExpiry
  | serviceByteReceived (byte : Byte) (framingError : Bool)
  | interByteTimerExpiry
  | answerSent
  | status (message : ServiceMessage)
  | entry (message : ServiceMessage)
  | capacity (message : ServiceMessage)
  | setpointRead (message : ServiceMessage)
  | setpointSet (message : ServiceMessage)
  | offsetSet (message : ServiceMessage)
  | events (message : ServiceMessage)
  | counters (message : ServiceMessage)
  | clearCounters (message : ServiceMessage)
  | cause (message : ServiceMessage)
  | clearFault (message : ServiceMessage)
  | park (message : ServiceMessage)
  | mask (message : ServiceMessage)
  | startBitRead
  | dominantBitInSeekingIdle (endBit : Option (Fin 7))
  | onTimePassed (channel : DutyChannel)
deriving DecidableEq, Repr

end Sys2Proof
end

