-- ==== Sys2Proof/Decode.lean ====
section
/-! DEFINITION. The command a word spells by the opcode table's bits: the table gives no row any bits, so no word spells a command. -/

namespace Sys2Proof

/-- spec/opcode_table.json gives none of its 83 rows bits ("fields": [] in each), so every word is answered by none. -/
def decodeTableWord (_nbits _w : Nat) : Option Instr := none

end Sys2Proof
end

