-- ==== Sys2Proof/Config.lean ====
section
/-! DEFINITION. What the part fixes (durations and thresholds, in the clock's units) and the free values the manual leaves open. -/

namespace Sys2Proof.Config

/-- A free value for each number drawn: nothing constrains it (log entries 4, 5, 6 and 19). -/
opaque freeChoice : Nat → Nat

/-- The clock counts units of 50 ns, the unit of the shortest on-time (R146). -/
def ticksPerSecond : Nat := 20000000

/-- `n` seconds in clock units. -/
def seconds (n : Nat) : Nat := n * ticksPerSecond

/-- `n` milliseconds in clock units. -/
def millis (n : Nat) : Nat := n * 20000

/-- `n` bit periods of 16 µs of the link (R64) in clock units. -/
def bitPeriods (n : Nat) : Nat := n * 320

/-- R14: 2.0 s. -/
def ageTick : Nat := seconds 2
/-- R13: 6 s. -/
def untrackedTime : Nat := seconds 6
/-- R52: 10 s. -/
def supplyTime : Nat := seconds 10
/-- R86: 10 s. -/
def quietTime : Nat := seconds 10
/-- R99: 3 s. -/
def holdOffTime : Nat := seconds 3
/-- R99: 1 s. -/
def spacingTime : Nat := seconds 1
/-- R100: 2 s. -/
def stateTime : Nat := seconds 2
/-- R107: 200 ms. -/
def settleTime : Nat := millis 200
/-- R109: 500 ms. -/
def censusTime : Nat := millis 500
/-- R111: 3.5 s. -/
def selfSilenceTime : Nat := millis 3500
/-- R116: the wake timer counts minutes. -/
def minutes (n : Nat) : Nat := seconds (60 * n)
/-- R116, R117: 60 s. -/
def sampleTime : Nat := seconds 60
/-- R125: 1 s. -/
def controlInterval : Nat := seconds 1
/-- R129: 60 s. -/
def switchTime : Nat := seconds 60
/-- R132: 30 s. -/
def boostTime : Nat := seconds 30
/-- R136: 120 s. -/
def frostTime : Nat := seconds 120
/-- R153: 100 ms. -/
def stepTime : Nat := millis 100
/-- R153: 50 ms. -/
def deadTime : Nat := millis 50
/-- R160: 2 s. -/
def stallTime : Nat := seconds 2
/-- R161: 30 s. -/
def restartTime : Nat := seconds 30
/-- R162: 60 s. -/
def goodRunTime : Nat := seconds 60
/-- R151: the cool valve's minimum rest, 1 s. -/
def coolRest : Nat := seconds 1
/-- R151: the least on phase worth beginning after a rest, 1 s. -/
def coolLeastOn : Nat := seconds 1
/-- R167: 5 s. -/
def recoveryTime : Nat := seconds 5
/-- R175: 50 ms. -/
def readTime : Nat := millis 50
/-- R182: 20 ms. -/
def interByteTime : Nat := millis 20
/-- R75, R76: a fault flag is seven bits. -/
def flagTime : Nat := bitPeriods 7
/-- R67: the VETO slot begins two bit periods after the check value, behind the ACK and FAULT slots. -/
def vetoDelay : Nat := bitPeriods 2
/-- R67: from the beginning of the ACK slot to the end of the frame: three slots and seven end bits. -/
def ackToEnd : Nat := bitPeriods 10
/-- R67: from the beginning of the FAULT slot to the end of the frame. -/
def faultToEnd : Nat := bitPeriods 9

/-- R84, R85: the confinement counters' limit. -/
def confinementLimit : Nat := 16
/-- R89: the greatest count of a statistics counter. -/
def counterMax : Nat := 16777215
/-- R1: places of the Share Table, the self entry's included. -/
def tablePlaces : Nat := 12
/-- R189: records the event FIFO holds. -/
def fifoDepth : Nat := 16

/-- 9.1: entry to CUT, 17.0 V. -/
def cutEntry : Nat := 170
/-- 9.1: release of a CUT hold, 18.5 V. -/
def cutRelease : Nat := 185
/-- 9.1: entry to WARN, 21.0 V. -/
def warnEntry : Nat := 210
/-- 9.1: recovery in WARN, 22.5 V. -/
def warnRecovery : Nat := 225

end Sys2Proof.Config
end

