-- ==== Sys2Proof/Machine/State.lean ====
section
/-! DEFINITION. The state of the eleven blocks as plain data, the reasons a step can stop, and the state right after reset. -/

namespace Sys2Proof.Machine

/-- Three values, one each for COOL, HEAT and POWER, in that order (file 00). -/
structure Per (α : Type) where
  cool : α
  heat : α
  power : α
deriving DecidableEq, Repr

/-- A timer that is stopped (none), or running until the clock reaches the value. -/
abbrev Timer := Option Nat

/-- A timer whose expiry is itself kept (R52, R111). -/
inductive KeptTimer where
  | stopped
  | running (deadline : Nat)
  | expired
deriving DecidableEq, Repr

/-! ### STB, the Share Table -/

/-- The classes of a REQUEST, most urgent first (file 00). -/
inductive ClaimClass where
  | protection | recovery | comfort
deriving DecidableEq, Repr

/-- The mode of a zone (R2, R128). -/
inductive ZoneMode where
  | off | vent | heat | cool
deriving DecidableEq, Repr

/-- The coach operating mode (3.7). -/
inductive SetMode where
  | off | vent | heat | cool | auto
deriving DecidableEq, Repr

/-- An outdoor reading with its outdoor age in seconds (R2). -/
structure OutdoorReading where
  temp : Int
  age : Nat
deriving DecidableEq, Repr

/-- One entry of the Share Table (1.2, R2). `none` is an absent optional field. -/
structure Entry where
  address : Nat
  pinned : Bool
  present : Bool
  age : Nat
  weight : Option Nat
  committed : Per Nat
  floor : Per (Option Nat)
  demand : Per (Option Nat)
  lastClass : Per (Option ClaimClass)
  zoneTemp : Option Int
  outdoor : Option OutdoorReading
  mode : Option ZoneMode
  shed : Bool
deriving DecidableEq, Repr

/-- The Share Table: the self entry, the other entries in recency order (R4), the untracked flag with its timer (R13) and the age tick timer (R14). -/
structure ShareTable where
  self : Option Entry
  order : List Entry
  untracked : Bool
  untrackedTimer : Timer
  ageTimer : Timer
deriving DecidableEq, Repr

/-! ### CJG, the Claim Judge -/

/-- The last outcome in an own-request record (2.1). -/
inductive LastOutcome where
  | none | accepted | refused
deriving DecidableEq, Repr

/-- The own verdict in an own-request record (2.1). -/
inductive OwnVerdict where
  | notJudged | passed
  | failed (test : Nat)
deriving DecidableEq, Repr

/-- The own-request record of one resource (2.1). -/
structure OwnRequest where
  lastOutcome : LastOutcome
  ownVerdict : OwnVerdict
deriving DecidableEq, Repr

/-- The last veto record (2.1). -/
structure VetoRecord where
  resource : Resource
  sender : Nat
  test : Nat
deriving DecidableEq, Repr

/-- The Claim Judge's state (2.1). -/
structure ClaimJudge where
  overdraw : Per Bool
  releaseTarget : Per (Option Nat)
  ownRequest : Per OwnRequest
  lastVeto : Option VetoRecord
deriving DecidableEq, Repr

/-! ### CSR, the Capacity and Setpoint Records -/

/-- The state of a capacity record (3.1). -/
inductive CapacityState where
  | default | fresh | lapsed
deriving DecidableEq, Repr

/-- A capacity record (3.1). -/
structure CapacityRecord where
  value : Nat
  source : Nat
  state : CapacityState
  timer : KeptTimer
  adoption : Bool
deriving DecidableEq, Repr

/-- The coach setpoint record (3.7). -/
structure SetpointRecord where
  value : Nat
  mode : SetMode
  epoch : Nat
  origin : Nat
deriving DecidableEq, Repr

/-- The Capacity and Setpoint Records; the setpoint record has no content before the configuration read succeeds (R60). -/
structure Records where
  capacity : Per CapacityRecord
  setpoint : Option SetpointRecord
deriving DecidableEq, Repr

/-! ### The content of frames -/

/-- The depth of a park (R115). -/
inductive ParkDepth where
  | light | deep
deriving DecidableEq, Repr

/-- The zone fields of a STATE frame (R71). -/
structure ZoneFields where
  temp : Int
  mode : ZoneMode
deriving DecidableEq, Repr

/-- The content of a STATE frame (R70, R71). -/
structure StateContent where
  member : Bool
  shed : Bool
  weight : Nat
  setMode : SetMode
  committed : Per Nat
  demand : Per Nat
  floor : Per Nat
  capacity : Per Nat
  capacityState : Per CapacityState
  zone : Option ZoneFields
  setpointValue : Nat
  setpointEpoch : Nat
  setpointOrigin : Nat
  outdoor : Option OutdoorReading
deriving DecidableEq, Repr

/-- What a frame of each kind carries (R70); the class of a REQUEST is its urgency. -/
inductive FrameBody where
  | park (depth : ParkDepth) (wakeAfter : Nat)
  | wake
  | supply (fallback : Bool) (values : Per (Option Nat))
  | release (resource : Resource) (newDraw : Nat)
  | request (resource : Resource) (claimClass : ClaimClass) (drawBefore raise demand : Nat)
  | setpoint (value : Nat) (mode : SetMode) (epoch origin : Nat)
  | state (content : StateContent)
  | join (weight : Nat)
deriving DecidableEq, Repr

/-! ### LNK, the Link Controller -/

/-- The link states (R66). -/
inductive LinkState where
  | off | seekingIdle | idle | transmitting | receiving | flag
deriving DecidableEq, Repr

/-- The heard indicator (R82). -/
inductive Heard where
  | none | heard | unheard
deriving DecidableEq, Repr

/-- A statistics counter with its overflow flag (R89). -/
structure Counter where
  count : Nat
  overflow : Bool
deriving DecidableEq, Repr

/-- The ten statistics counters, in the order of 4.9. -/
structure Counters where
  framesSent : Counter
  framesGood : Counter
  checkFailures : Counter
  voidsSeen : Counter
  arbitrationLosses : Counter
  vetoesDriven : Counter
  requestsAccepted : Counter
  requestsRefused : Counter
  malformed : Counter
  peerLapses : Counter
deriving DecidableEq, Repr

/-- What a judgement that drives VETO keeps until the frame's VETO slot (R28, R79): the clock at which the slot begins, and the vetoes driven counter and the last veto record as they stood before it. -/
structure VetoNote where
  slot : Nat
  count : Counter
  record : Option VetoRecord
deriving DecidableEq, Repr

/-- The Link Controller. `recessive` is the count of SEEKING_IDLE, `endRun` the recessive bits the present frame's end field gives to it (R66), `wire` the own frame on the wire (R73), `vetoDriven` this station's VETO for the present frame (R28) and `vetoNote` what a self-lapse before its slot brings back (log entry 42), `drivesFrom` the clock at which LINK_QUIET ended within the frame being received, if it did (R80, log entry 42), `flagTimer` the end of the fault flag (R75). -/
structure Link where
  state : LinkState
  recessive : Nat
  endRun : Nat
  wire : Option FrameBody
  vetoDriven : Bool
  vetoNote : VetoNote
  drivesFrom : Timer
  flagTimer : Timer
  txVoid : Nat
  rxFault : Nat
  quietTimer : Timer
  heard : Heard
  counters : Counters
deriving DecidableEq, Repr

/-! ### TXQ, the Transmit Queue -/

/-- What a claim key holds (5.1). -/
inductive ClaimIntent where
  | request (claimClass : ClaimClass)
  | release (target : Nat)
deriving DecidableEq, Repr

/-- What the PARK key holds (5.1). -/
structure ParkIntent where
  depth : ParkDepth
  wakeAfter : Nat
deriving DecidableEq, Repr

/-- What the SETPOINT key holds (5.1). -/
structure SetpointIntent where
  value : Nat
  mode : SetMode
deriving DecidableEq, Repr

/-- The nine keys of the queue (5.1). -/
inductive Key where
  | park | wake | supplyLapse
  | claim (resource : Resource)
  | setpoint | state | join
deriving DecidableEq, Repr

/-- An intent (5.1). -/
inductive Intent where
  | park (intent : ParkIntent)
  | wake | supplyLapse
  | claim (resource : Resource) (intent : ClaimIntent)
  | setpoint (intent : SetpointIntent)
  | state | join
deriving DecidableEq, Repr

/-- At most one intent per key (R90); the keys that carry nothing are marks. -/
structure Intents where
  park : Option ParkIntent
  wake : Bool
  supplyLapse : Bool
  claim : Per (Option ClaimIntent)
  setpoint : Option SetpointIntent
  state : Bool
  join : Bool
deriving DecidableEq, Repr

/-- The raise step of a resource (R98). -/
inductive RaiseStep where
  | full
  | atMost (n : Nat)
deriving DecidableEq, Repr

/-- The Transmit Queue: intents, pending replacements, the key whose intent is on the wire, and the pacing. -/
structure TransmitQueue where
  intents : Intents
  replacements : Intents
  onWire : Option Key
  step : Per RaiseStep
  holdOff : Per Timer
  spacing : Per Timer
  stateTimer : Timer
deriving DecidableEq, Repr

/-! ### MBR, the Membership Controller -/

/-- The station states (6.1). -/
inductive Station where
  | configRead | configFault | settling | joining | member | linkQuiet | isolated
  | parkedLight | parkedDeep
deriving DecidableEq, Repr

/-- The last wake source (6.1). -/
inductive WakeSource where
  | none | pin | timer
  | wakeFrame (sender : Nat)
  | freeze
deriving DecidableEq, Repr

/-- The Membership Controller (6.1); `parkDepth` none is NONE. -/
structure Membership where
  station : Station
  settleTimer : Timer
  censusTimer : Timer
  selfSilence : KeptTimer
  wakeTimer : Timer
  sampleTimer : Timer
  parkDepth : Option ParkDepth
  lastWake : WakeSource
  freezeWake : Bool
deriving DecidableEq, Repr

/-! ### ZLP, the Zone Loop -/

/-- A thermistor reading (7.1). -/
inductive Reading where
  | absent | faulted
  | valid (temp : Int)
deriving DecidableEq, Repr

/-- The door hold (R134). -/
inductive DoorHold where
  | none | opened | runout
deriving DecidableEq, Repr

/-- The AUTO sub-mode (R129). -/
inductive SubMode where
  | none | heat | cool
deriving DecidableEq, Repr

/-- The Zone Loop (7.1). `activeMode` none is NONE. `blowerDuty` is the blower demand duty of R138, `doorActive` the level of DOORIN as last reported. -/
structure ZoneLoop where
  zone : Reading
  discharge : Reading
  outdoor : Reading
  zoneFault : Bool
  dischargeFault : Bool
  outdoorFault : Bool
  target : Option Int
  activeMode : Option ZoneMode
  subMode : SubMode
  block : Option Resource
  integHeat : Nat
  integCool : Nat
  demand : Per Nat
  classes : Per ClaimClass
  controlTimer : Timer
  switchTimer : Timer
  boostTimer : Timer
  hold : DoorHold
  ceiling : Per (Option Nat)
  holdTimer : Timer
  frostTimer : Timer
  interlock : Bool
  blowerDuty : Nat
  doorActive : Bool
deriving DecidableEq, Repr

/-! ### DCC, the Drive and Capture Channels -/

/-- A duty channel (8.1): last cap, active and buffered duty, whether the output is on, and the clock at the start of the present period. -/
structure Channel where
  cap : Nat
  active : Nat
  buffered : Nat
  on : Bool
  start : Option Nat
deriving DecidableEq, Repr

/-- Whether the damper's position counter is known (8.1). -/
inductive Homed where
  | unhomed | homing | homed
deriving DecidableEq, Repr

/-- What the damper's motor pair is doing (8.1). -/
inductive Motion where
  | idle | opening | closing | dead
deriving DecidableEq, Repr

/-- The damper (8.1); `endStop` is the level of DMPEND as last reported. -/
structure Damper where
  homed : Homed
  position : Option Nat
  target : Nat
  motion : Motion
  deadTimer : Timer
  stepTimer : Timer
  homingSteps : Nat
  endStop : Bool
  faultLatch : Bool
deriving DecidableEq, Repr

/-- The blower's condition (8.1). -/
inductive BlowerCondition where
  | running | stalled | fault
deriving DecidableEq, Repr

/-- The blower's stall watch and tach capture (8.1); `lastEdge` is the clock of the last tach edge. -/
structure Blower where
  condition : BlowerCondition
  stallCount : Nat
  stallTimer : Timer
  restartTimer : Timer
  goodRunTimer : Timer
  window : Nat
  lastWindow : Nat
  period : Option Nat
  lastEdge : Option Nat
  faultLatch : Bool
deriving DecidableEq, Repr

/-- The Drive and Capture Channels; `restTimer` is the cool valve's minimum rest and `deferred` marks an on phase waiting for its end (R151). -/
structure Drives where
  blower : Channel
  heat : Channel
  cool : Channel
  restTimer : Timer
  deferred : Bool
  damper : Damper
  fan : Blower
deriving DecidableEq, Repr

/-! ### SUP, the Supply Monitor -/

/-- The supply level (9.1). -/
inductive SupplyLevel where
  | normal | warn | cut
deriving DecidableEq, Repr

/-- The restart cause (9.1). -/
inductive RestartCause where
  | none | powerOn | supplyCut | pin
deriving DecidableEq, Repr

/-- The three holding conditions (9.5). -/
structure Holds where
  vlog : Bool
  pin : Bool
  cut : Bool
deriving DecidableEq, Repr

/-- The Supply Monitor (9.1): `standing` are the holding conditions that stand, `noted` the hold record, `awaiting` whether VLOG has returned and no sample has been taken since, so that it is not known yet whether a cut stands (R170, log entry 9). -/
structure Supply where
  sample : Option Nat
  level : SupplyLevel
  recovery : Timer
  cause : RestartCause
  cutCount : Nat
  standing : Holds
  noted : Holds
  awaiting : Bool
deriving DecidableEq, Repr

/-! ### CFG, the Configuration Reader -/

/-- Zero count and scale of a sensor (10.2). -/
structure Calibration where
  zero : Nat
  scale : Nat
deriving DecidableEq, Repr

/-- The image of the configuration block, by its fields (10.2). -/
structure Image where
  address : Nat
  weight : Nat
  floor : Per Nat
  coolRating : Nat
  heatRating : Nat
  blowerFull : Nat
  airflowMin : Nat
  ventDuty : Nat
  gainP : Nat
  gainI : Nat
  boostThreshold : Nat
  doorEnabled : Bool
  outdoorPresent : Bool
  holdTime : Nat
  zoneOffset : Int
  returnCal : Calibration
  dischargeCal : Calibration
  outdoorCal : Calibration
  travel : Nat
  minFresh : Nat
  fallback : Per Nat
  defaultSetpoint : Nat
  defaultMode : SetMode
  pinned : List Nat
  defaultMask : BitVec 32
deriving DecidableEq, Repr

/-- The phase of the configuration read (R175). -/
inductive ReadPhase where
  | none | readyPoll | transfer
deriving DecidableEq, Repr

/-- The fault reason of the Configuration Reader (R178). -/
inductive FaultReason where
  | none | timeout | check | version | range
deriving DecidableEq, Repr

/-- The Configuration Reader; `image` none is a not valid image (R178). -/
structure ConfigReader where
  image : Option Image
  phase : ReadPhase
  readTimer : Timer
  reason : FaultReason
  offset : Nat
deriving DecidableEq, Repr

/-! ### SVC, the Service Line -/

/-- The kinds of event (R188). -/
inductive EventKind where
  | joined | lapsedSelf | peerNew | peerLapsed | requestRefused | overdrawBegin | overdrawEnd
  | capacityLapse | setpointAdopted | doorHold | blowerStall | blowerFault | tachOverrun
  | damperFault | sensorFault | supplyWarn | supplyOk | addressClash | linkQuiet | tableFull
  | parked | woken
deriving DecidableEq, Repr

/-- An event record (R188). -/
structure EventRecord where
  kind : EventKind
  time : Nat
  peer : Option Nat
  resource : Option Resource
  value : Option Nat
deriving DecidableEq, Repr

/-- The receive states of the Service Line (R182). -/
inductive RxState where
  | hunt | length | body | busy
deriving DecidableEq, Repr

/-- The status of an answer (R181). -/
inductive AnswerStatus where
  | ok | nak | unknown | badValue | notMember | notReady
deriving DecidableEq, Repr

/-- The data of the STATUS answer (R184); an absent field is none. -/
structure StatusData where
  station : Station
  parkDepth : Option ParkDepth
  lastWake : WakeSource
  faultReason : FaultReason
  faultOffset : Nat
  supplyLevel : SupplyLevel
  supplySample : Option Nat
  heard : Heard
  untracked : Bool
  overdraw : Per Bool
  lastVeto : Option VetoRecord
  zoneMode : Option ZoneMode
  zone : Reading
  zoneFault : Bool
  dischargeFault : Bool
  outdoorFault : Option Bool
  target : Option Int
  blowerDuty : Nat
  heatDuty : Nat
  coolDuty : Nat
  homed : Homed
  position : Option Nat
  damperTarget : Nat
  motion : Motion
  condition : BlowerCondition
  stallCount : Nat
  blowerLatch : Bool
  damperLatch : Bool
  lastWindow : Nat
  tachPeriod : Option Nat
  eventsHeld : Nat
  lost : Nat
deriving DecidableEq, Repr

/-- One capacity record as the CAPACITY answer carries it (R185). -/
structure CapacityData where
  value : Nat
  source : Nat
  state : CapacityState
deriving DecidableEq, Repr

/-- The data after the status of an answer (11.2, 11.3). -/
inductive AnswerData where
  | none
  | status (data : StatusData)
  | entry (count : Nat) (entry : Option Entry)
  | capacity (data : Per CapacityData)
  | setpoint (data : Option SetpointRecord)
  | events (count lost : Nat) (records : List EventRecord)
  | counters (data : Counters)
  | cause (cause : RestartCause) (cutCount : Nat)
deriving DecidableEq, Repr

/-- An answer: the command byte as received, the status and the data (R181, R183). -/
structure Answer where
  command : Byte
  status : AnswerStatus
  data : AnswerData
deriving DecidableEq, Repr

/-- The Service Line: receiver, answer being sent, event FIFO (oldest first), lost count, mask and service offset. -/
structure ServiceLine where
  rx : RxState
  length : Nat
  buffer : List Byte
  interByte : Timer
  answer : Option Answer
  fifo : List EventRecord
  lost : Nat
  mask : BitVec 32
  offset : Int
deriving DecidableEq, Repr

/-! ### Events raised within one command -/

/-- The blocks (file 00). -/
inductive Block where
  | stb | cjg | csr | lnk | mbr | zlp | dcc | sup
deriving DecidableEq, Repr

/-- Who raised an event: events of one origin enter the FIFO in the order raised, events of different origins in either order unless a rule orders them (R189, `Origin.precedes`, log entry 4). -/
structure Origin where
  block : Block
  slot : Nat
deriving DecidableEq, Repr

/-- An event raised within the present command, not yet at the FIFO. -/
structure Raised where
  origin : Origin
  record : EventRecord
deriving DecidableEq, Repr

/-! ### The whole part -/

/-- The whole state. `clock` counts units of 50 ns since the release of the last restart; `freeCount` and `raised` are the model's own (log entry 4); `pending` is the queue of commands, first in first out. -/
structure State where
  stb : ShareTable
  cjg : ClaimJudge
  csr : Records
  lnk : Link
  txq : TransmitQueue
  mbr : Membership
  zlp : ZoneLoop
  dcc : Drives
  sup : Supply
  cfg : ConfigReader
  svc : ServiceLine
  clock : Nat
  freeCount : Nat
  raised : List Raised
  pending : List Instr
deriving DecidableEq, Repr

/-- Nothing in the spec stops the part: CONFIG_FAULT, ISOLATED, a blower FAULT and a restart hold are states it goes on in. So there is no fault; the type is empty. -/
inductive Fault where
deriving DecidableEq, Repr

/-- Reasons for a refusal. -/
inductive Refusal where
  /-- Raised by an arm of exec whose command has no meaning yet (safe); no arm uses it. -/
  | notModelled (mnemonic : String)
deriving DecidableEq, Repr

/-! ### The content after any restart, block by block -/

/-- One value for each resource. -/
def Per.all {α : Type} (a : α) : Per α := ⟨a, a, a⟩

/-- R21: at every restart the table is emptied and its timers stopped. -/
def ShareTable.reset : ShareTable :=
  { self := none, order := [], untracked := false, untrackedTimer := none, ageTimer := none }

/-- An own-request record after a restart or a clear (R25). -/
def OwnRequest.cleared : OwnRequest := { lastOutcome := .none, ownVerdict := .notJudged }

/-- R25. -/
def ClaimJudge.reset : ClaimJudge :=
  { overdraw := .all false, releaseTarget := .all none, ownRequest := .all .cleared
    lastVeto := none }

/-- R49. -/
def CapacityRecord.reset : CapacityRecord :=
  { value := 0, source := 0, state := .default, timer := .stopped, adoption := false }

/-- R49, R60. -/
def Records.reset : Records := { capacity := .all .reset, setpoint := none }

/-- A cleared statistics counter (R89). -/
def Counter.zero : Counter := { count := 0, overflow := false }

/-- The ten counters cleared (R89). -/
def Counters.zero : Counters :=
  { framesSent := .zero, framesGood := .zero, checkFailures := .zero, voidsSeen := .zero
    arbitrationLosses := .zero, vetoesDriven := .zero, requestsAccepted := .zero
    requestsRefused := .zero, malformed := .zero, peerLapses := .zero }

/-- 4.10, first column (log entry 8 for the two bit counts). -/
def Link.reset : Link :=
  { state := .off, recessive := 0, endRun := 7, wire := none, vetoDriven := false
    vetoNote := { slot := 0, count := .zero, record := none }, drivesFrom := none, flagTimer := none, txVoid := 0, rxFault := 0
    quietTimer := none, heard := .none
    counters := .zero }

/-- No intent under any key. -/
def Intents.empty : Intents :=
  { park := none, wake := false, supplyLapse := false, claim := .all none, setpoint := none
    state := false, join := false }

/-- R103. -/
def TransmitQueue.reset : TransmitQueue :=
  { intents := .empty, replacements := .empty, onWire := none, step := .all .full
    holdOff := .all none, spacing := .all none, stateTimer := none }

/-- R104. -/
def Membership.reset : Membership :=
  { station := .configRead, settleTimer := none, censusTimer := none, selfSilence := .stopped
    wakeTimer := none, sampleTimer := none, parkDepth := none, lastWake := .none
    freezeWake := false }

/-- 7.11, first column (log entry 8 for the classes and the blower demand duty), with the door level as it stands outside. -/
def ZoneLoop.reset (doorActive : Bool) : ZoneLoop :=
  { zone := .absent, discharge := .absent, outdoor := .absent, zoneFault := false
    dischargeFault := false, outdoorFault := false, target := none, activeMode := none
    subMode := .none, block := none, integHeat := 0, integCool := 0, demand := .all 0
    classes := .all .comfort, controlTimer := none, switchTimer := none, boostTimer := none
    hold := .none, ceiling := .all none, holdTimer := none, frostTimer := none
    interlock := true, blowerDuty := 0, doorActive := doorActive }

/-- R165: a duty channel after a restart; its periods start with a read that succeeds. -/
def Channel.reset : Channel :=
  { cap := 0, active := 0, buffered := 0, on := false, start := none }

/-- R165, with the end-stop level as it stands outside. -/
def Damper.reset (endStop : Bool) : Damper :=
  { homed := .unhomed, position := none, target := 0, motion := .idle, deadTimer := none
    stepTimer := none, homingSteps := 0, endStop := endStop, faultLatch := false }

/-- R165. -/
def Blower.reset : Blower :=
  { condition := .running, stallCount := 0, stallTimer := none, restartTimer := none
    goodRunTimer := none, window := 0, lastWindow := 0, period := none, lastEdge := none
    faultLatch := false }

/-- R165. Its table has no row for the cool valve's minimum rest: that it is stopped, with no on phase deferred, is the model's choice (log entry 37). -/
def Drives.reset (endStop : Bool) : Drives :=
  { blower := .reset, heat := .reset, cool := .reset, restTimer := none, deferred := false
    damper := .reset endStop, fan := .reset }

/-- No holding condition. -/
def Holds.clear : Holds := { vlog := false, pin := false, cut := false }

/-- R178: after a restart, before the read begins. -/
def ConfigReader.reset : ConfigReader :=
  { image := none, phase := .none, readTimer := none, reason := .none, offset := 0 }

/-- R175: the read begun at the release of a restart, the clock then being 0. -/
def ConfigReader.begun : ConfigReader :=
  { ConfigReader.reset with phase := .readyPoll, readTimer := some Config.readTime }

/-- 11.5, first column. -/
def ServiceLine.reset : ServiceLine :=
  { rx := .hunt, length := 0, buffer := [], interByte := none, answer := none, fifo := []
    lost := 0, mask := 0, offset := 0 }

/-- The Supply Monitor right after the release of a POWER_ON restart (R171, R172). The sample at which it was released is not given a value: it stands as absent (log entry 7, the model's choice). -/
def Supply.reset : Supply :=
  { sample := none, level := .normal, recovery := none, cause := .powerOn, cutCount := 0
    standing := .clear, noted := .clear, awaiting := false }

/-- The machine right after reset: the release of a POWER_ON restart, with the configuration read begun (R171, R175; log entry 7). -/
def State.reset : State :=
  { stb := .reset, cjg := .reset, csr := .reset, lnk := .reset, txq := .reset, mbr := .reset
    zlp := .reset false, dcc := .reset false, sup := .reset, cfg := .begun, svc := .reset
    clock := 0, freeCount := 0, raised := [], pending := [] }

end Sys2Proof.Machine
end

