-- ==== Sys2Proof/Machine/Bits.lean ====
section
/-! DEFINITION. Bits and bytes: field order (R67, R70), the check value (R69), bit stuffing (R65) and two-byte values. -/

namespace Sys2Proof.Machine

/-- A two-byte value, more significant byte first (R67, 10.2, R181). -/
def be16 (hi lo : Byte) : Nat := hi.toNat * 256 + lo.toNat

/-- A two-byte two's complement value (R70, 10.2). -/
def signed16 (hi lo : Byte) : Int :=
  if be16 hi lo < 32768 then (be16 hi lo : Int) else (be16 hi lo : Int) - 65536

/-- A one-byte two's complement value (10.2, R181). -/
def signed8 (b : Byte) : Int := if b.toNat < 128 then (b.toNat : Int) else (b.toNat : Int) - 256

/-- The byte of value `n` modulo 256. -/
def byteOf (n : Nat) : Byte := BitVec.ofNat 8 n

/-- The two bytes of `n` modulo 65536, more significant first. -/
def bytes16 (n : Nat) : List Byte := [byteOf (n / 256), byteOf n]

/-- The two's complement of a signed value, as a number of 16 bits. -/
def unsigned16 (z : Int) : Nat := (z % 65536).toNat

/-- Byte `i` of a payload or block; 0 beyond its end. -/
def byteAt (p : List Byte) (i : Nat) : Byte := p.getD i 0

/-- The two-byte value at byte `i`. -/
def be16At (p : List Byte) (i : Nat) : Nat := be16 (byteAt p i) (byteAt p (i + 1))

/-- The signed two-byte value at byte `i`. -/
def signed16At (p : List Byte) (i : Nat) : Int := signed16 (byteAt p i) (byteAt p (i + 1))

/-- The bits of a value of `w` bits, most significant first (R67). -/
def bitsOf {w : Nat} (v : BitVec w) : List Bool := (List.range w).map fun i => v.getMsbD i

/-- The bits of a sequence of bytes, in the order they are sent. -/
def byteBits (p : List Byte) : List Bool := p.flatMap bitsOf

/-- R69: the check register after a sequence of bits. -/
def checkFrom (reg : BitVec 16) : List Bool → BitVec 16
  | [] => reg
  | bit :: bits =>
    if reg.msb != bit then checkFrom ((reg <<< 1) ^^^ 0x1021#16) bits else checkFrom (reg <<< 1) bits

/-- R69: the check value of a sequence of bits, from a register of all ones. -/
def checkValue (bits : List Bool) : BitVec 16 := checkFrom 0xFFFF#16 bits

/-- R67, R69: the bits the check value covers: arbitration, length and payload. -/
def checkedBits (kind : BitVec 3) (urgency : BitVec 2) (source : BitVec 6) (payload : List Byte) :
    List Bool :=
  bitsOf urgency ++ bitsOf kind ++ bitsOf source ++ bitsOf (BitVec.ofNat 6 payload.length) ++
    byteBits payload

/-- R69: the check value of a frame. -/
def frameCheck (kind : BitVec 3) (urgency : BitVec 2) (source : BitVec 6) (payload : List Byte) :
    BitVec 16 :=
  checkValue (checkedBits kind urgency source payload)

/-- R69: whether a receiver finds the check of a frame good. -/
def checkGood (kind : BitVec 3) (b : RxBody) : Bool :=
  decide (frameCheck kind b.urgency b.source b.payload = b.check)

/-- R65: bit stuffing from a state in which the last `run` bits sent were `last`. After five consecutive bits of equal value the opposite value is inserted, and it counts toward the next run. -/
def stuffFrom : Bool → Nat → List Bool → List Bool
  | _, _, [] => []
  | last, run, b :: bs =>
    if run = 5 then
      (!last) :: b :: (if b = !last then stuffFrom b 2 bs else stuffFrom b 1 bs)
    else if b = last then b :: stuffFrom b (run + 1) bs
    else b :: stuffFrom b 1 bs

/-- R65: the stuffed part of a frame, from the start bit through the last check bit. No bit is inserted after the last bit. -/
def stuff (bits : List Bool) : List Bool := stuffFrom true 0 bits

/-- R65: removal of the inserted bits; none is a stuff violation, a sixth bit of one value where an inserted bit is due. -/
def destuffFrom : Bool → Nat → List Bool → Option (List Bool)
  | _, _, [] => some []
  | last, run, b :: bs =>
    if run = 5 then
      if b = last then none else destuffFrom b 1 bs
    else if b = last then (destuffFrom b (run + 1) bs).map (b :: ·)
    else (destuffFrom b 1 bs).map (b :: ·)

/-- R65: what a receiver makes of the stuffed part of a frame. -/
def destuff (bits : List Bool) : Option (List Bool) := destuffFrom true 0 bits

/-- R67: the bits of a frame from its start bit through its last check bit, before stuffing; dominant is false (R64). -/
def frameBits (kind : BitVec 3) (urgency : BitVec 2) (source : BitVec 6) (payload : List Byte) :
    List Bool :=
  false :: (checkedBits kind urgency source payload ++
    bitsOf (frameCheck kind urgency source payload))

/-- R68: the arbitration value. -/
def arbitrationValue (urgency kind source : Nat) : Nat := urgency * 512 + kind * 64 + source

end Sys2Proof.Machine
end

