-- ==== Sys2Proof/Machine/Operands.lean ====
section
/-! DEFINITION. The operands of the commands: frame payloads and their malformed tests (R27, R50, R62, R70, R72), the configuration block (10.2, R176, R177) and sensor counts (R123). -/

namespace Sys2Proof.Machine

/-! ### One value per resource -/

/-- The value of one resource. -/
def Per.get {α : Type} (p : Per α) : Resource → α
  | .cool => p.cool
  | .heat => p.heat
  | .power => p.power

/-- The value of one resource replaced. -/
def Per.set {α : Type} (p : Per α) (r : Resource) (a : α) : Per α :=
  match r with
  | .cool => { p with cool := a }
  | .heat => { p with heat := a }
  | .power => { p with power := a }

/-- A function at each resource. -/
def Per.map {α β : Type} (f : α → β) (p : Per α) : Per β := ⟨f p.cool, f p.heat, f p.power⟩

/-- The value of each resource from its name. -/
def Per.of {α : Type} (f : Resource → α) : Per α := ⟨f .cool, f .heat, f .power⟩

/-- The three resources in order. -/
def resources : List Resource := [.cool, .heat, .power]

/-! ### Codes (R67, R70) -/

/-- R67: the kind code of a frame. -/
def FrameBody.kindCode : FrameBody → Nat
  | .park _ _ => 0
  | .wake => 1
  | .supply _ _ => 2
  | .release _ _ => 3
  | .request _ _ _ _ _ => 4
  | .setpoint _ _ _ _ => 5
  | .state _ => 6
  | .join _ => 7

/-- R67: the urgency that carries a class. -/
def ClaimClass.code : ClaimClass → Nat
  | .protection => 0
  | .recovery => 1
  | .comfort => 2

/-- R67: the class an urgency carries; 3 names none (R27). -/
def classOfCode : Nat → Option ClaimClass
  | 0 => some .protection
  | 1 => some .recovery
  | 2 => some .comfort
  | _ => none

/-- R67, R68: the urgency of a frame. -/
def FrameBody.urgency : FrameBody → Nat
  | .release _ _ => 0
  | .request _ c _ _ _ => c.code
  | .park _ _ => 3
  | .wake => 3
  | .supply _ _ => 3
  | .setpoint _ _ _ _ => 3
  | .state _ => 3
  | .join _ => 3

/-- R70: resource codes. -/
def resourceCode : Resource → Nat
  | .cool => 0
  | .heat => 1
  | .power => 2

/-- R70: the resource a code names. -/
def resourceOfCode : Nat → Option Resource
  | 0 => some .cool
  | 1 => some .heat
  | 2 => some .power
  | _ => none

/-- R70: zone mode codes. -/
def ZoneMode.code : ZoneMode → Nat
  | .off => 0
  | .vent => 1
  | .heat => 2
  | .cool => 3

/-- R70: the zone mode of a two-bit code. -/
def zoneModeOfCode : Nat → ZoneMode
  | 0 => .off
  | 1 => .vent
  | 2 => .heat
  | _ => .cool

/-- R70: setpoint mode codes. -/
def SetMode.code : SetMode → Nat
  | .off => 0
  | .vent => 1
  | .heat => 2
  | .cool => 3
  | .auto => 4

/-- R70: the setpoint mode a code names. -/
def setModeOfCode : Nat → Option SetMode
  | 0 => some .off
  | 1 => some .vent
  | 2 => some .heat
  | 3 => some .cool
  | 4 => some .auto
  | _ => none

/-- R70: capacity state codes. -/
def CapacityState.code : CapacityState → Nat
  | .default => 0
  | .fresh => 1
  | .lapsed => 2

/-- R70: the capacity state a code names; 3 names none (R72). -/
def capacityStateOfCode : Nat → Option CapacityState
  | 0 => some .default
  | 1 => some .fresh
  | 2 => some .lapsed
  | _ => none

/-- R70: park depth codes. -/
def ParkDepth.code : ParkDepth → Nat
  | .light => 0
  | .deep => 1

/-- R70: the park depth a code names. -/
def parkDepthOfCode : Nat → Option ParkDepth
  | 0 => some .light
  | 1 => some .deep
  | _ => none

/-- The bits `lo .. lo + n - 1` of a byte as a number. -/
def bitField (b : Byte) (lo n : Nat) : Nat := b.toNat / 2 ^ lo % 2 ^ n

/-! ### Reading a payload: none is MALFORMED (R72) -/

/-- R72, last row: park depth above 1, wake-after above 1440. -/
def decodePark (p : List Byte) : Option FrameBody :=
  if p.length ≠ 3 then none
  else
    match parkDepthOfCode (byteAt p 0).toNat with
    | none => none
    | some d => if be16At p 1 ≤ 1440 then some (.park d (be16At p 1)) else none

/-- R70: a WAKE has no payload. -/
def decodeWake (p : List Byte) : Option FrameBody :=
  if p.length = 0 then some .wake else none

/-- R70: the resources named by a present-mask, in payload order. -/
def namedBy (m : Byte) : List Resource :=
  (if m.getLsbD 0 then [Resource.cool] else []) ++ (if m.getLsbD 1 then [Resource.heat] else []) ++
    (if m.getLsbD 2 then [Resource.power] else [])

/-- R70: the values of the named resources, two bytes each from byte `i`. -/
def readValues (p : List Byte) : List Resource → Nat → Per (Option Nat) → Per (Option Nat)
  | [], _, acc => acc
  | r :: rs, i, acc => readValues p rs (i + 2) (acc.set r (some (be16At p i)))

/-- R50, R70, R72: the present-mask names none, a length that does not fit it, or a value above 1023. -/
def decodeSupply (p : List Byte) : Option FrameBody :=
  let named := namedBy (byteAt p 0)
  let values := readValues p named 1 (.all none)
  if named = [] then none
  else if p.length ≠ 1 + 2 * named.length then none
  else if resources.all fun r => (values.get r).all fun v => decide (v ≤ 1023) then
    some (.supply ((byteAt p 0).getLsbD 7) values)
  else none

/-- R27: urgency other than 0, no resource, or a new draw above 1023. -/
def decodeRelease (urgency : Nat) (p : List Byte) : Option FrameBody :=
  if p.length ≠ 3 ∨ urgency ≠ 0 then none
  else
    match resourceOfCode (byteAt p 0).toNat with
    | none => none
    | some r => if be16At p 1 ≤ 1023 then some (.release r (be16At p 1)) else none

/-- R27: urgency 3, no resource, raise 0, draw-before plus raise above 1023, or demand above 1023. -/
def decodeRequest (urgency : Nat) (p : List Byte) : Option FrameBody :=
  if p.length ≠ 7 then none
  else
    match classOfCode urgency, resourceOfCode (byteAt p 0).toNat with
    | some c, some r =>
      if be16At p 3 ≠ 0 ∧ be16At p 1 + be16At p 3 ≤ 1023 ∧ be16At p 5 ≤ 1023 then
        some (.request r c (be16At p 1) (be16At p 3) (be16At p 5))
      else none
    | _, _ => none

/-- R62: value outside 160..300, mode above 4, or an origin other than the source. -/
def decodeSetpoint (source : Nat) (p : List Byte) : Option FrameBody :=
  if p.length ≠ 6 then none
  else
    match setModeOfCode (byteAt p 2).toNat with
    | none => none
    | some m =>
      if 160 ≤ be16At p 0 ∧ be16At p 0 ≤ 300 ∧ (byteAt p 5).toNat = source then
        some (.setpoint (be16At p 0) m (be16At p 3) (byteAt p 5).toNat)
      else none

/-- R70, R71: the outdoor reading a STATE carries; none when its flag is clear. -/
def stateOutdoor (p : List Byte) : Option OutdoorReading :=
  if (byteAt p 0).getLsbD 5 then some { temp := signed16At p 31, age := (byteAt p 33).toNat }
  else none

/-- R70, R71: the zone fields a STATE carries; none when their flag is clear, whatever the two fields hold. -/
def stateZone (p : List Byte) : Option ZoneFields :=
  if (byteAt p 0).getLsbD 4 then
    some { temp := signed16At p 24, mode := zoneModeOfCode (bitField (byteAt p 1) 0 2) }
  else none

/-- R72: the STATE row's range tests that are not on a code. -/
def stateInRange (p : List Byte) : Bool :=
  decide (bitField (byteAt p 0) 0 4 ≠ 0) &&
  decide (be16At p 2 ≤ 1023) && decide (be16At p 4 ≤ 1023) && decide (be16At p 6 ≤ 1023) &&
  decide (be16At p 8 ≤ 1023) && decide (be16At p 10 ≤ 1023) && decide (be16At p 12 ≤ 1023) &&
  decide (be16At p 17 ≤ 1023) && decide (be16At p 19 ≤ 1023) && decide (be16At p 21 ≤ 1023) &&
  decide (160 ≤ be16At p 26) && decide (be16At p 26 ≤ 300) && decide ((byteAt p 30).toNat ≠ 63)

/-- R70, R72: a STATE payload. -/
def decodeState (p : List Byte) : Option FrameBody :=
  if p.length ≠ (if (byteAt p 0).getLsbD 5 then 34 else 31) then none
  else if !stateInRange p then none
  else
    match setModeOfCode (bitField (byteAt p 1) 2 3), capacityStateOfCode (bitField (byteAt p 23) 0 2),
      capacityStateOfCode (bitField (byteAt p 23) 2 2),
      capacityStateOfCode (bitField (byteAt p 23) 4 2) with
    | some sm, some cc, some ch, some cp =>
      some (.state
        { member := (byteAt p 0).getLsbD 6
          shed := (byteAt p 1).getLsbD 7
          weight := bitField (byteAt p 0) 0 4
          setMode := sm
          committed := ⟨be16At p 2, be16At p 4, be16At p 6⟩
          demand := ⟨be16At p 8, be16At p 10, be16At p 12⟩
          floor := ⟨(byteAt p 14).toNat, (byteAt p 15).toNat, (byteAt p 16).toNat⟩
          capacity := ⟨be16At p 17, be16At p 19, be16At p 21⟩
          capacityState := ⟨cc, ch, cp⟩
          zone := stateZone p
          setpointValue := be16At p 26
          setpointEpoch := be16At p 28
          setpointOrigin := (byteAt p 30).toNat
          outdoor := stateOutdoor p })
    | _, _, _, _ => none

/-- R70, R72: a JOIN payload, its weight not 0. -/
def decodeJoin (p : List Byte) : Option FrameBody :=
  if p.length = 1 ∧ bitField (byteAt p 0) 0 4 ≠ 0 then some (.join (bitField (byteAt p 0) 0 4))
  else none

/-- R72: the tests every kind shares: source 0 or 63, and the urgency of the kinds that carry no class. -/
def arbitrationOk (kind urgency source : Nat) : Bool :=
  decide (source ≠ 0) && decide (source ≠ 63) &&
    (decide (kind = 3) || decide (kind = 4) || decide (urgency = 3))

/-- R70, R72: the content of a frame by its kind code; none is MALFORMED. -/
def decodeFields (kind urgency source : Nat) (p : List Byte) : Option FrameBody :=
  if !arbitrationOk kind urgency source then none
  else
    match kind with
    | 0 => decodePark p
    | 1 => decodeWake p
    | 2 => decodeSupply p
    | 3 => decodeRelease urgency p
    | 4 => decodeRequest urgency p
    | 5 => decodeSetpoint source p
    | 6 => decodeState p
    | _ => decodeJoin p

/-- R72: what a receiver reads from a frame; none is MALFORMED. -/
def decodeFrame (kind : BitVec 3) (b : RxBody) : Option FrameBody :=
  decodeFields kind.toNat b.urgency.toNat b.source.toNat b.payload

/-! ### Forming a payload (R70) -/

/-- R70: a value per named resource, in order, absent ones skipped. -/
def valueBytes : Option Nat → List Byte
  | none => []
  | some v => bytes16 v

/-- 1 for yes, 0 for no. -/
def bit (b : Bool) : Nat := if b then 1 else 0

/-- R70: the bytes of a STATE. -/
def encodeState (c : StateContent) : List Byte :=
  [byteOf (bit c.member * 64 + bit c.outdoor.isSome * 32 + bit c.zone.isSome * 16 + c.weight),
   byteOf (bit c.shed * 128 + c.setMode.code * 4 +
     (match c.zone with | some z => z.mode.code | none => 0))] ++
  bytes16 c.committed.cool ++ bytes16 c.committed.heat ++ bytes16 c.committed.power ++
  bytes16 c.demand.cool ++ bytes16 c.demand.heat ++ bytes16 c.demand.power ++
  [byteOf c.floor.cool, byteOf c.floor.heat, byteOf c.floor.power] ++
  bytes16 c.capacity.cool ++ bytes16 c.capacity.heat ++ bytes16 c.capacity.power ++
  [byteOf (c.capacityState.power.code * 16 + c.capacityState.heat.code * 4 +
     c.capacityState.cool.code)] ++
  bytes16 (match c.zone with | some z => unsigned16 z.temp | none => 0) ++
  bytes16 c.setpointValue ++ bytes16 c.setpointEpoch ++ [byteOf c.setpointOrigin] ++
  (match c.outdoor with
   | some o => bytes16 (unsigned16 o.temp) ++ [byteOf o.age]
   | none => [])

/-- R70: the payload of a frame. -/
def FrameBody.payload : FrameBody → List Byte
  | .park d w => byteOf d.code :: bytes16 w
  | .wake => []
  | .supply fb vs =>
    byteOf (bit fb * 128 + bit vs.power.isSome * 4 + bit vs.heat.isSome * 2 + bit vs.cool.isSome) ::
      (valueBytes vs.cool ++ valueBytes vs.heat ++ valueBytes vs.power)
  | .release r d => byteOf (resourceCode r) :: bytes16 d
  | .request r _ b ra d => byteOf (resourceCode r) :: (bytes16 b ++ bytes16 ra ++ bytes16 d)
  | .setpoint v m e o => bytes16 v ++ [byteOf m.code] ++ bytes16 e ++ [byteOf o]
  | .state c => encodeState c
  | .join w => [byteOf w]

/-- The kind field of a frame (R67). -/
def FrameBody.kind (f : FrameBody) : BitVec 3 := BitVec.ofNat 3 f.kindCode

/-- R67, R69: the frame as a station with the given address sends it, check value included. -/
def FrameBody.sent (f : FrameBody) (source : Nat) : RxBody :=
  { urgency := BitVec.ofNat 2 f.urgency
    source := BitVec.ofNat 6 source
    payload := f.payload
    check := frameCheck f.kind (BitVec.ofNat 2 f.urgency) (BitVec.ofNat 6 source) f.payload }

/-- R65, R67: the stuffed bits of a frame, from its start bit through its last check bit. -/
def FrameBody.lineBits (f : FrameBody) (source : Nat) : List Bool :=
  stuff (frameBits f.kind (BitVec.ofNat 2 f.urgency) (BitVec.ofNat 6 source) f.payload)

/-! ### The configuration block (10.2) -/

/-- The pinned addresses that are listed: the first `count` of bytes 47 to 50. -/
def listedPinned (b : List Byte) : List Nat :=
  ([47, 48, 49, 50].take (byteAt b 46).toNat).map fun i => (byteAt b i).toNat

/-- R177: whether pinned address `i` (byte 47 + i) passes its tests. -/
def pinnedOk (b : List Byte) (i : Nat) : Bool :=
  let a := (byteAt b (47 + i)).toNat
  if i < (byteAt b 46).toNat then
    decide (1 ≤ a) && decide (a ≤ 62) && decide (a ≠ (byteAt b 1).toNat) &&
      decide (((listedPinned b).eraseIdx i).contains a = false)
  else decide (a = 0)

/-- R177, 10.2: each field's first byte with whether the field is in range, in table order. Fields of any value are left out. -/
def fieldChecks (b : List Byte) : List (Nat × Bool) :=
  let v1 := fun i => (byteAt b i).toNat
  let rangeOk := fun (lo hi n : Nat) => decide (lo ≤ n) && decide (n ≤ hi)
  [ (1, rangeOk 1 62 (v1 1)), (2, rangeOk 1 15 (v1 2)),
    (6, rangeOk 1 1023 (be16At b 6)), (8, rangeOk 1 1023 (be16At b 8)),
    (10, rangeOk 1 1023 (be16At b 10)), (12, rangeOk 0 1000 (be16At b 12)),
    (14, rangeOk 0 1000 (be16At b 14)), (18, rangeOk 10 50 (v1 18)),
    (19, decide (v1 19 < 4)), (20, rangeOk 0 120 (v1 20)),
    (21, decide (-30 ≤ signed8 (byteAt b 21)) && decide (signed8 (byteAt b 21) ≤ 30)),
    (22, rangeOk 0 4095 (be16At b 22)), (24, rangeOk 1 32767 (be16At b 24)),
    (26, rangeOk 0 4095 (be16At b 26)), (28, rangeOk 1 32767 (be16At b 28)),
    (30, rangeOk 0 4095 (be16At b 30)), (32, rangeOk 1 32767 (be16At b 32)),
    (34, rangeOk 20 250 (v1 34)), (35, rangeOk 0 1000 (be16At b 35)),
    (37, rangeOk 0 1023 (be16At b 37)), (39, rangeOk 0 1023 (be16At b 39)),
    (41, rangeOk 0 1023 (be16At b 41)), (43, rangeOk 160 300 (be16At b 43)),
    (45, rangeOk 0 4 (v1 45)), (46, rangeOk 0 4 (v1 46)),
    (47, pinnedOk b 0), (48, pinnedOk b 1), (49, pinnedOk b 2), (50, pinnedOk b 3),
    (55, [55, 56, 57, 58, 59, 60, 61].all fun i => decide (v1 i = 0)) ]

/-- R177: the offset of the first field out of range, or none when every field is good. -/
def firstBadField (b : List Byte) : Option Nat :=
  ((fieldChecks b).find? fun c => !c.2).map (·.1)

/-- R176: whether the check value of bytes 0 to 61 agrees with bytes 62 and 63. -/
def blockCheckGood (b : List Byte) : Bool :=
  decide ((checkValue (byteBits (b.take 62))).toNat = be16At b 62)

/-- 10.2: the fields of a block. -/
def imageOf (b : List Byte) : Image :=
  { address := (byteAt b 1).toNat
    weight := (byteAt b 2).toNat
    floor := ⟨(byteAt b 3).toNat, (byteAt b 4).toNat, (byteAt b 5).toNat⟩
    coolRating := be16At b 6
    heatRating := be16At b 8
    blowerFull := be16At b 10
    airflowMin := be16At b 12
    ventDuty := be16At b 14
    gainP := (byteAt b 16).toNat
    gainI := (byteAt b 17).toNat
    boostThreshold := (byteAt b 18).toNat
    doorEnabled := (byteAt b 19).getLsbD 0
    outdoorPresent := (byteAt b 19).getLsbD 1
    holdTime := (byteAt b 20).toNat
    zoneOffset := signed8 (byteAt b 21)
    returnCal := { zero := be16At b 22, scale := be16At b 24 }
    dischargeCal := { zero := be16At b 26, scale := be16At b 28 }
    outdoorCal := { zero := be16At b 30, scale := be16At b 32 }
    travel := (byteAt b 34).toNat
    minFresh := be16At b 35
    fallback := ⟨be16At b 37, be16At b 39, be16At b 41⟩
    defaultSetpoint := be16At b 43
    defaultMode := (setModeOfCode (byteAt b 45).toNat).getD .off
    pinned := listedPinned b
    defaultMask := BitVec.ofNat 32 (be16At b 51 * 65536 + be16At b 53) }

/-! ### Arithmetic of file 00 and sensor counts (R123) -/

/-- clamp(lo..hi, x) of file 00. -/
def clampInt (lo hi x : Int) : Int := if x < lo then lo else if hi < x then hi else x

/-- ceil(a / b) for b above 0. -/
def ceilDiv (a b : Nat) : Nat := (a + (b - 1)) / b

/-- R122: the temperature of a valid reading. -/
def Reading.temp : Reading → Option Int
  | .valid t => some t
  | .absent => none
  | .faulted => none

/-- R122, R123: the reading of a count: 0 and 4095 are faulted, any other is converted, the division rounding toward zero. -/
def convert (cal : Calibration) (count : BitVec 12) : Reading :=
  if count.toNat = 0 ∨ count.toNat = 4095 then .faulted
  else
    .valid (clampInt (-32768) 32767
      ((((count.toNat : Int) - (cal.zero : Int)) * 80).tdiv (cal.scale : Int)))

end Sys2Proof.Machine
end

