-- ==== Sys2Proof/Machine/Ops.lean ====
section
/-! DEFINITION. The operations every command shares: replacing a block's state, the clock, free values, events on their way to the FIFO (R188, R189), statistics counters (R89) and the Transmit Queue's keys (R90 to R93). -/

namespace Sys2Proof.Machine

/-! ### Replacing one block's state -/

/-- The state with its `stb` replaced. -/
def State.setStb (s : State) (x : ShareTable) : State := { s with stb := x }

/-- The state with its `cjg` replaced. -/
def State.setCjg (s : State) (x : ClaimJudge) : State := { s with cjg := x }

/-- The state with its `csr` replaced. -/
def State.setCsr (s : State) (x : Records) : State := { s with csr := x }

/-- The state with its `lnk` replaced. -/
def State.setLnk (s : State) (x : Link) : State := { s with lnk := x }

/-- The state with its `txq` replaced. -/
def State.setTxq (s : State) (x : TransmitQueue) : State := { s with txq := x }

/-- The state with its `mbr` replaced. -/
def State.setMbr (s : State) (x : Membership) : State := { s with mbr := x }

/-- The state with its `zlp` replaced. -/
def State.setZlp (s : State) (x : ZoneLoop) : State := { s with zlp := x }

/-- The state with its `dcc` replaced. -/
def State.setDcc (s : State) (x : Drives) : State := { s with dcc := x }

/-- The state with its `sup` replaced. -/
def State.setSup (s : State) (x : Supply) : State := { s with sup := x }

/-- The state with its `cfg` replaced. -/
def State.setCfg (s : State) (x : ConfigReader) : State := { s with cfg := x }

/-- The state with its `svc` replaced. -/
def State.setSvc (s : State) (x : ServiceLine) : State := { s with svc := x }

/-- The state with its `clock` replaced. -/
def State.setClock (s : State) (x : Nat) : State := { s with clock := x }

/-- The state with its `freeCount` replaced. -/
def State.setFreeCount (s : State) (x : Nat) : State := { s with freeCount := x }

/-- The state with its `raised` replaced. -/
def State.setRaised (s : State) (x : List Raised) : State := { s with raised := x }

/-- The state with its `pending` replaced. -/
def State.setPending (s : State) (x : List Instr) : State := { s with pending := x }

/-! ### Station states, holds, the clock -/

/-- R5: the station states in which the Share Table and the records take frames. -/
def Station.takesFrames : Station → Bool
  | .joining | .member | .linkQuiet => true
  | .configRead | .configFault | .settling | .isolated | .parkedLight | .parkedDeep => false

/-- R80: the station states that permit transmission and driving the ACK and FAULT slots and fault flags. -/
def Station.drives : Station → Bool
  | .joining | .member => true
  | .configRead | .configFault | .settling | .linkQuiet | .isolated | .parkedLight
  | .parkedDeep => false

/-- R89: the station states in which the statistics counters count. -/
def Station.counts : Station → Bool
  | .settling | .joining | .member | .linkQuiet => true
  | .configRead | .configFault | .isolated | .parkedLight | .parkedDeep => false

/-- R122: the station states in which the thermistor inputs are converted. -/
def Station.converts : Station → Bool
  | .settling | .joining | .member | .linkQuiet => true
  | .configRead | .configFault | .isolated | .parkedLight | .parkedDeep => false

/-- R149, R164: the station states in which the duty channels follow their caps. -/
def Station.followsCaps : Station → Bool
  | .settling | .joining | .member | .linkQuiet => true
  | .configRead | .configFault | .isolated | .parkedLight | .parkedDeep => false

/-- The station is in MEMBER. -/
def State.isMember (s : State) : Bool := decide (s.mbr.station = .member)

/-- R170: some holding condition stands. -/
def Holds.any (h : Holds) : Bool := h.vlog || h.pin || h.cut

/-- R170: the hold lasts: a holding condition stands, or VLOG has returned and its first sample is still to come (log entry 9). -/
def Supply.holds (u : Supply) : Bool := u.standing.any || u.awaiting

/-- R170: the part is held in restart. -/
def State.held (s : State) : Bool := s.sup.holds

/-- A timer started now for `d` clock units. -/
def State.after (s : State) (d : Nat) : Timer := some (s.clock + d)

/-- The own configured address; 0 while no image is valid. -/
def State.ownAddress (s : State) : Nat := (s.cfg.image.map (·.address)).getD 0

/-! ### Free values (log entry 4) -/

/-- The free value next to be drawn. -/
def State.free (s : State) : Nat := Config.freeChoice s.freeCount

/-- The state after one free value has been drawn. -/
def State.drawn (s : State) : State := s.setFreeCount (s.freeCount + 1)

/-! ### Events -/

/-- R188: the code of an event kind, which is its bit in the event mask. -/
def EventKind.code : EventKind → Nat
  | .joined => 0
  | .lapsedSelf => 1
  | .peerNew => 2
  | .peerLapsed => 3
  | .requestRefused => 4
  | .overdrawBegin => 5
  | .overdrawEnd => 6
  | .capacityLapse => 7
  | .setpointAdopted => 8
  | .doorHold => 9
  | .blowerStall => 10
  | .blowerFault => 11
  | .tachOverrun => 12
  | .damperFault => 13
  | .sensorFault => 14
  | .supplyWarn => 15
  | .supplyOk => 16
  | .addressClash => 17
  | .linkQuiet => 18
  | .tableFull => 19
  | .parked => 20
  | .woken => 21

/-- R188: whole seconds since the release of the last restart, wrapping to 0 past 4294967295. -/
def State.eventTime (s : State) : Nat := s.clock / Config.ticksPerSecond % 4294967296

/-- R188: an event raised by a block. It enters the FIFO when the command ends (R189, log entry 4). -/
def State.raise (s : State) (o : Origin) (k : EventKind) (peer : Option Nat)
    (resource : Option Resource) (value : Option Nat) : State :=
  s.setRaised (s.raised ++ [{ origin := o
                              record := { kind := k, time := s.eventTime, peer := peer
                                          resource := resource, value := value } }])

/-- R189: an event at the mask and the FIFO. -/
def ServiceLine.post (v : ServiceLine) (e : EventRecord) : ServiceLine :=
  if v.mask.getLsbD e.kind.code then
    if v.fifo.length < Config.fifoDepth then { v with fifo := v.fifo ++ [e] }
    else { v with lost := min 255 (v.lost + 1) }
  else v

/-- R189: whether an event of the first origin, raised before one of the second, enters before it. Events of one origin do. So do a SENSOR_FAULT, raised at stage 1 of an interval, and a DOOR_HOLD, raised after stage 10 (R126): the slot of DOOR_HOLD is 0, those of SENSOR_FAULT are the sensors' codes. -/
def Origin.precedes (o o' : Origin) : Bool :=
  o == o' || (o.block == .zlp && o'.block == .zlp && (o.slot == 0 || o'.slot == 0))

/-- The events that may enter next: those that no event raised earlier precedes. -/
def nextEvents : List Raised → List Raised
  | [] => []
  | e :: es => e :: (nextEvents es).filter fun x => !e.origin.precedes x.origin

/-- R189: an order in which the events of one command enter the FIFO. Which of the events that may enter goes next is a free value, drawn only while there are two or more. `fuel` is the number of events. -/
def mergeEvents : Nat → Nat → List Raised → List EventRecord × Nat
  | 0, n, evs => (evs.map (·.record), n)
  | fuel + 1, n, evs =>
    match nextEvents evs with
    | [] => ([], n)
    | [e] =>
      let rest := mergeEvents fuel n (evs.erase e)
      (e.record :: rest.1, rest.2)
    | e :: e' :: es =>
      let pick := (e :: e' :: es).getD (Config.freeChoice n % (es.length + 2)) e
      let rest := mergeEvents fuel (n + 1) (evs.erase pick)
      (pick.record :: rest.1, rest.2)

/-- R189: the events of the command enter the FIFO. -/
def State.flush (s : State) : State :=
  let m := mergeEvents s.raised.length s.freeCount s.raised
  ((s.setSvc (m.1.foldl ServiceLine.post s.svc)).setFreeCount m.2).setRaised []

/-- A command while the part runs: it acts and its events are entered. While the part is held in restart it has no effect (R169, R171). -/
def State.run (s : State) (f : State → State) : Host.Outcome State Fault Refusal :=
  .next (if s.held then s else (f s).flush)

/-- A command that the Supply Monitor or a pin takes in even while the part is held (R166, R170). -/
def State.always (s : State) (f : State → State) : Host.Outcome State Fault Refusal :=
  .next (f s).flush

/-! ### Statistics counters (R89) -/

/-- The ten counters by name (4.9). -/
inductive CounterId where
  | framesSent | framesGood | checkFailures | voidsSeen | arbitrationLosses | vetoesDriven
  | requestsAccepted | requestsRefused | malformed | peerLapses
deriving DecidableEq, Repr

/-- R89: the increment that takes a counter past its greatest count makes it 0 and sets its overflow flag. -/
def Counter.bump (c : Counter) : Counter :=
  if Config.counterMax ≤ c.count then { count := 0, overflow := true }
  else { c with count := c.count + 1 }

/-- One counter of the ten increased by 1. -/
def Counters.bump (c : Counters) : CounterId → Counters
  | .framesSent => { c with framesSent := c.framesSent.bump }
  | .framesGood => { c with framesGood := c.framesGood.bump }
  | .checkFailures => { c with checkFailures := c.checkFailures.bump }
  | .voidsSeen => { c with voidsSeen := c.voidsSeen.bump }
  | .arbitrationLosses => { c with arbitrationLosses := c.arbitrationLosses.bump }
  | .vetoesDriven => { c with vetoesDriven := c.vetoesDriven.bump }
  | .requestsAccepted => { c with requestsAccepted := c.requestsAccepted.bump }
  | .requestsRefused => { c with requestsRefused := c.requestsRefused.bump }
  | .malformed => { c with malformed := c.malformed.bump }
  | .peerLapses => { c with peerLapses := c.peerLapses.bump }

/-- R89: a counter increased by 1, in the station states in which the counters count. -/
def State.bump (s : State) (i : CounterId) : State :=
  if s.mbr.station.counts then s.setLnk { s.lnk with counters := s.lnk.counters.bump i } else s

/-! ### The keys of the Transmit Queue (R90 to R93) -/

/-- The key of an intent (5.1). -/
def Intent.key : Intent → Key
  | .park _ => .park
  | .wake => .wake
  | .supplyLapse => .supplyLapse
  | .claim r _ => .claim r
  | .setpoint _ => .setpoint
  | .state => .state
  | .join => .join

/-- R92: the claim rows of the combining table. -/
def combineClaim : Option ClaimIntent → ClaimIntent → ClaimIntent
  | some (.release t), .release t' => .release (min t t')
  | some (.release t), .request _ => .release t
  | some (.request _), i => i
  | none, i => i

/-- R92: an intent asked for under a key that may hold one already. -/
def Intents.combine (q : Intents) : Intent → Intents
  | .park p => { q with park := some p }
  | .wake => { q with wake := true }
  | .supplyLapse => { q with supplyLapse := true }
  | .claim r i => { q with claim := q.claim.set r (some (combineClaim (q.claim.get r) i)) }
  | .setpoint p => { q with setpoint := some p }
  | .state => { q with state := true }
  | .join => { q with join := true }

/-- What a key holds. -/
def Intents.get (q : Intents) : Key → Option Intent
  | .park => q.park.map .park
  | .wake => if q.wake then some .wake else none
  | .supplyLapse => if q.supplyLapse then some .supplyLapse else none
  | .claim r => (q.claim.get r).map (.claim r)
  | .setpoint => q.setpoint.map .setpoint
  | .state => if q.state then some .state else none
  | .join => if q.join then some .join else none

/-- The key emptied. -/
def Intents.clear (q : Intents) : Key → Intents
  | .park => { q with park := none }
  | .wake => { q with wake := false }
  | .supplyLapse => { q with supplyLapse := false }
  | .claim r => { q with claim := q.claim.set r none }
  | .setpoint => { q with setpoint := none }
  | .state => { q with state := false }
  | .join => { q with join := false }

/-- R92: an intent asked for: queued or combined at once, or as the pending replacement while the key's intent is on the wire. -/
def TransmitQueue.ask (q : TransmitQueue) (i : Intent) : TransmitQueue :=
  if q.onWire = some i.key then { q with replacements := q.replacements.combine i }
  else { q with intents := q.intents.combine i }

/-- R93: a pending replacement that takes effect at a non-void completion; a pending REQUEST is discarded after a paced REQUEST. -/
def keptReplacement (paced : Bool) : Option Intent → Option Intent
  | some (.claim r (.request c)) => if paced then none else some (.claim r (.request c))
  | i => i

/-- An intent, if any, installed. -/
def Intents.install (q : Intents) : Option Intent → Intents
  | none => q
  | some i => q.combine i

/-- R93, R96: the queue at a non-void completion. Without a key on the wire it stays as it stands. -/
def TransmitQueue.completed (q : TransmitQueue) (paced : Bool) : TransmitQueue :=
  match q.onWire with
  | none => q
  | some k =>
    { q with intents := (q.intents.clear k).install (keptReplacement paced (q.replacements.get k))
             replacements := q.replacements.clear k
             onWire := none }

/-- R93, R96: the queue at a void completion or a loss of arbitration: the intent stays and its pending replacement is combined with it. -/
def TransmitQueue.returned (q : TransmitQueue) : TransmitQueue :=
  match q.onWire with
  | none => q
  | some k =>
    { q with intents := q.intents.install (q.replacements.get k)
             replacements := q.replacements.clear k
             onWire := none }

/-- R101: every intent and pending replacement discarded, steps FULL, timers stopped. -/
def TransmitQueue.discard (_q : TransmitQueue) : TransmitQueue := .reset

/-- R102: steps FULL, hold-offs and spacings stopped, intents kept. -/
def TransmitQueue.joining (q : TransmitQueue) : TransmitQueue :=
  { q with step := .all .full, holdOff := .all none, spacing := .all none }

/-- An intent asked for (R92). -/
def State.ask (s : State) (i : Intent) : State := s.setTxq (s.txq.ask i)

/-- R97: a forced RELEASE, queued whenever its target is below the own committed value. -/
def State.forceRelease (s : State) (r : Resource) (target : Nat) : State :=
  match s.stb.self with
  | none => s
  | some e => if target < e.committed.get r then s.ask (.claim r (.release target)) else s

/-- The self entry changed by `f`. -/
def State.mapSelf (s : State) (f : Entry → Entry) : State :=
  s.setStb { s.stb with self := s.stb.self.map f }

end Sys2Proof.Machine
end

