-- ==== Sys2Proof/Machine/Actuators.lean ====
section
/-! DEFINITION. The Drive and Capture Channels' operations: duty channels (R145 to R151), the damper (R152 to R158), the blower's stall watch (R160). -/

namespace Sys2Proof.Machine

/-! ### Duty channels -/

/-- One of the three duty channels. -/
def Drives.channel (d : Drives) : DutyChannel → Channel
  | .blower => d.blower
  | .heatValve => d.heat
  | .coolValve => d.cool

/-- One of the three duty channels replaced. -/
def Drives.setChannel (d : Drives) (ch : DutyChannel) (c : Channel) : Drives :=
  match ch with
  | .blower => { d with blower := c }
  | .heatValve => { d with heat := c }
  | .coolValve => { d with cool := c }

/-- R146: the on-time of a duty, in clock units of 50 ns. -/
def onTime : DutyChannel → Nat → Nat
  | .blower, d => d
  | .heatValve, d => d * 20
  | .coolValve, d => d * 200000

/-- R146: the period, in clock units. -/
def periodOf : DutyChannel → Nat
  | .blower => 1000
  | .heatValve => 20000
  | .coolValve => 200000000

/-- R150: the effective on-time of a COOLV duty, in ‰ of the cycle. -/
def effectiveOn (d : Nat) : Nat :=
  if d < 100 then 0 else if d ≤ 900 then d else if d < 1000 then 900 else 1000

/-- R145: the duty a channel takes from a cap; for COOLV its effective on-time. -/
def dutyOf : DutyChannel → Nat → Nat
  | .blower, c => c
  | .heatValve, c => c
  | .coolValve, c => effectiveOn c

/-- R151: the output off now; the cool valve's minimum rest begins where DRCLV goes from on to off. -/
def Drives.switchOff (d : Drives) (ch : DutyChannel) (clock : Nat) : Drives :=
  let c := d.channel ch
  let d' := d.setChannel ch { c with on := false }
  match ch with
  | .coolValve => if c.on then { d' with restTimer := some (clock + Config.coolRest) } else d'
  | .blower => d'
  | .heatValve => d'

/-- R145: both duties of a channel set. -/
def Drives.setDuties (d : Drives) (ch : DutyChannel) (duty : Nat) : Drives :=
  d.setChannel ch { d.channel ch with active := duty, buffered := duty }

/-- R149: forced off: the output off at once and both duties 0. -/
def Drives.forceOff (d : Drives) (ch : DutyChannel) (clock : Nat) : Drives :=
  let d' := (d.switchOff ch clock).setDuties ch 0
  match ch with
  | .coolValve => { d' with deferred := false }
  | .blower => d'
  | .heatValve => d'

/-- R146: how long the present period has run. -/
def Channel.position (c : Channel) (clock : Nat) : Nat :=
  match c.start with
  | none => 0
  | some t => clock - t

/-- R148: an immediate cut; the output goes off at once when the period has run for the new on-time (log entry 13). -/
def Drives.cut (d : Drives) (ch : DutyChannel) (duty clock : Nat) : Drives :=
  let d' := d.setDuties ch duty
  if onTime ch duty ≤ (d.channel ch).position clock then d'.switchOff ch clock else d'

/-- R145: a cap pushed to a channel. `follows` says that the channel is not held off (R149, R161); a cap pushed to a channel held off is recorded only. -/
def Drives.pushCap (d : Drives) (ch : DutyChannel) (cap : Nat) (follows : Bool) (clock : Nat) :
    Drives :=
  let d' := d.setChannel ch { d.channel ch with cap := cap }
  if !follows then d'
  else if cap = 0 then d'.forceOff ch clock
  else if dutyOf ch cap < (d.channel ch).active then d'.cut ch (dutyOf ch cap) clock
  else d'.setChannel ch { d'.channel ch with buffered := dutyOf ch cap }

/-- R146, R151: the output at the start of a period whose active duty is loaded. -/
def Drives.beginPeriod (d : Drives) (ch : DutyChannel) (clock : Nat) : Drives :=
  let c := d.channel ch
  match ch with
  | .coolValve =>
    if c.active = 0 then { d.switchOff ch clock with deferred := false }
    else if c.on then { d with deferred := false }
    else if d.restTimer.isSome then { d with deferred := true }
    else { d.setChannel ch { c with on := true } with deferred := false }
  | .blower => if c.active = 0 then d.switchOff ch clock else d.setChannel ch { c with on := true }
  | .heatValve => if c.active = 0 then d.switchOff ch clock else d.setChannel ch { c with on := true }

/-- R146, R147: the end of a period: a higher buffered duty loads, and a new period begins at once. -/
def Drives.periodEnd (d : Drives) (ch : DutyChannel) (clock : Nat) : Drives :=
  let c := d.channel ch
  match c.start with
  | none => d
  | some _ =>
    (d.setChannel ch { c with active := max c.active c.buffered, start := some clock }).beginPeriod
      ch clock

/-- R146: the on-time of the active duty runs out within the period. A duty of 1000 has no end within it. -/
def Drives.onTimePassed (d : Drives) (ch : DutyChannel) (clock : Nat) : Drives :=
  let c := d.channel ch
  if c.on ∧ c.active < 1000 then d.switchOff ch clock else d

/-- R151: the minimum rest ends; a deferred on phase begins when at least 1 s of it remains. -/
def Drives.restEnd (d : Drives) : Drives :=
  match d.restTimer with
  | none => d
  | some t =>
    let c := d.cool
    let begins := d.deferred && decide (0 < c.active) &&
      (match c.start with
       | none => false
       | some b => decide (t + Config.coolLeastOn ≤ b + onTime .coolValve c.active))
    { d with restTimer := none, deferred := false
             cool := if begins then { c with on := true } else c }

/-- R165, R179: the three periods start to run. -/
def Drives.startPeriods (d : Drives) (clock : Nat) : Drives :=
  { d with blower := { d.blower with start := some clock }
           heat := { d.heat with start := some clock }
           cool := { d.cool with start := some clock } }

/-! ### The blower's watch (R160, R162) -/

/-- R160: the stall timer watches: the condition is RUNNING and the active duty 200 ‰ or above. -/
def Drives.watched (d : Drives) : Bool :=
  decide (d.fan.condition = .running) && decide (200 ≤ d.blower.active)

/-- R160, R162: stall and good-run timers start when the watch comes to hold and stop when it ceases. -/
def Drives.rewatch (d : Drives) (was : Bool) (clock : Nat) : Drives :=
  if d.watched then
    if was then d
    else { d with fan := { d.fan with stallTimer := some (clock + Config.stallTime)
                                      goodRunTimer := some (clock + Config.goodRunTime) } }
  else { d with fan := { d.fan with stallTimer := none, goodRunTimer := none } }

/-- A change to the channels, with the stall watch following it. -/
def State.changeDrives (s : State) (f : Drives → Drives) : State :=
  s.setDcc ((f s.dcc).rewatch s.dcc.watched s.clock)

/-- R149, R161: whether a channel follows the caps pushed to it. -/
def State.follows (s : State) : DutyChannel → Bool
  | .blower => s.mbr.station.followsCaps && decide (s.dcc.fan.condition = .running)
  | .heatValve => s.mbr.station.followsCaps
  | .coolValve => s.mbr.station.followsCaps

/-- R149: the three channels forced off. -/
def State.forceAllOff (s : State) : State :=
  s.changeDrives fun d =>
    ((d.forceOff .blower s.clock).forceOff .heatValve s.clock).forceOff .coolValve s.clock

/-! ### The damper -/

/-- R153: the drive stops; 50 ms with both outputs off. -/
def Damper.stop (m : Damper) (clock : Nat) : Damper :=
  { m with motion := .dead, stepTimer := none, deadTimer := some (clock + Config.deadTime) }

/-- R153: a drive toward the closed end-stop begins. -/
def Damper.driveClosed (m : Damper) (clock : Nat) : Damper :=
  { m with motion := .closing, stepTimer := some (clock + Config.stepTime) }

/-- R152, R153: an IDLE homed damper starts a move when its target differs from its position. -/
def Damper.moveFromIdle (m : Damper) (clock : Nat) : Damper :=
  match m.position with
  | none => m
  | some p =>
    if p < m.target then
      { m with motion := .opening, stepTimer := some (clock + Config.stepTime) }
    else if m.target < p then m.driveClosed clock
    else m

/-- R154: a retarget while a homed damper moves. -/
def Damper.retarget (m : Damper) (clock : Nat) : Damper :=
  match m.position, m.motion with
  | some p, .opening => if p < m.target then m else m.stop clock
  | some p, .closing => if m.target < p then m else m.stop clock
  | some _, .idle => m.moveFromIdle clock
  | some _, .dead => m
  | none, _ => m

/-- R152: a target pushed by the Zone Loop. `moves` is false in ISOLATED, where no move is made (R158). -/
def Damper.push (m : Damper) (target travel clock : Nat) (moves : Bool) : Damper :=
  let m' := { m with target := min target travel }
  if moves && decide (m.homed = .homed) then m'.retarget clock else m'

/-- R156: a homing run met the end-stop. -/
def Damper.homedAt0 (m : Damper) (clock : Nat) : Damper :=
  ({ m with homed := .homed, position := some 0 } : Damper).stop clock

/-- R156: a homing run asked for. -/
def Damper.home (m : Damper) (clock : Nat) : Damper :=
  if m.homed = .homing then m
  else
    let m' := { m with homed := .homing, position := none, homingSteps := 0 }
    if m.endStop then m'.homedAt0 clock
    else
      match m.motion with
      | .opening => m'.stop clock
      | .closing => m'.stop clock
      | .dead => m'
      | .idle => m'.driveClosed clock

/-- R153, R156: the end of the dead interval. -/
def Damper.deadEnd (m : Damper) (clock : Nat) (moves : Bool) : Damper :=
  match m.deadTimer with
  | none => m
  | some _ =>
    let m' := { m with deadTimer := none, motion := Motion.idle }
    match m.homed with
    | .homing => m'.driveClosed clock
    | .homed => if moves then m'.moveFromIdle clock else m'
    | .unhomed => m'

/-- R157: a homing run that found no end-stop. -/
def Damper.homingFailed (m : Damper) (clock : Nat) : Damper :=
  ({ m with homed := .unhomed, position := none, faultLatch := true } : Damper).stop clock

/-- R155, R156: DMPEND becomes active, or is found active at the completion of a step. -/
def Damper.endStopMet (m : Damper) (clock : Nat) : Damper :=
  match m.homed, m.motion with
  | .homing, _ => m.homedAt0 clock
  | .homed, .closing => ({ m with position := some 0 } : Damper).stop clock
  | .homed, .opening => m
  | .homed, .dead => m
  | .homed, .idle => m
  | .unhomed, _ => m

/-- R153: a completed step of a homed damper that met no end-stop. -/
def Damper.stepped (m : Damper) (clock : Nat) : Damper :=
  let p := m.position.getD 0
  let p' := if m.motion = .opening then p + 1 else p - 1
  let m' := { m with position := some p' }
  if p' = m.target then m'.stop clock else { m' with stepTimer := some (clock + Config.stepTime) }

/-- R153, R155 to R157: a drive step completes with the end-stop read at the given level; the flag tells a failed homing run. While no step timer runs, no step completes and the level is not taken (log entries 2 and 19). -/
def Damper.stepEnd (m : Damper) (endStop : Bool) (travel clock : Nat) : Damper × Bool :=
  match m.stepTimer with
  | none => (m, false)
  | some _ =>
    let m' := { m with endStop := endStop }
    match m.homed with
    | .homing =>
      let n := { m' with homingSteps := m.homingSteps + 1 }
      if endStop then (n.homedAt0 clock, false)
      else if travel + 10 ≤ m.homingSteps + 1 then (n.homingFailed clock, true)
      else ({ n with stepTimer := some (clock + Config.stepTime) }, false)
    | .homed =>
      if endStop && decide (m.motion = .closing) then (m'.endStopMet clock, false)
      else (m'.stepped clock, false)
    | .unhomed => ({ m' with stepTimer := none }, false)

/-- R158: entering ISOLATED: target 0, a drive in progress of a homed damper stops, no move is started. -/
def Damper.isolate (m : Damper) (clock : Nat) : Damper :=
  let m' := { m with target := 0 }
  match m.homed, m.motion with
  | .homed, .opening => m'.stop clock
  | .homed, .closing => m'.stop clock
  | .homed, .dead => m'
  | .homed, .idle => m'
  | .homing, _ => m'
  | .unhomed, _ => m'

/-- A change to the damper. -/
def State.changeDamper (s : State) (f : Damper → Damper) : State :=
  s.setDcc { s.dcc with damper := f s.dcc.damper }

/-- The configured travel; 0 while no image is valid. -/
def State.travel (s : State) : Nat := (s.cfg.image.map (·.travel)).getD 0

/-- R158: moves are made in every station state but ISOLATED. -/
def State.damperMoves (s : State) : Bool := decide (s.mbr.station ≠ .isolated)

/-- R143, R152: the Zone Loop hands on a damper target. -/
def State.pushDamper (s : State) (target : Nat) : State :=
  s.changeDamper fun m => m.push target s.travel s.clock s.damperMoves

end Sys2Proof.Machine
end

