-- ==== Sys2Proof/Machine/Clock.lean ====
section
/-! DEFINITION. The part's own clock: which expiries are due, and the passing of one clock unit (log entries 1 and 4). -/

namespace Sys2Proof.Machine

/-- A command, if a timer has come to its end. -/
def dueAt (t : Timer) (clock : Nat) (c : Instr) : List Instr :=
  match t with
  | none => []
  | some d => if d ≤ clock then [c] else []

/-- A timer whose expiry is kept, as a timer. -/
def KeptTimer.timer : KeptTimer → Timer
  | .stopped => none
  | .running d => some d
  | .expired => none

/-- A command for each resource whose timer has come to its end. -/
def duePer (t : Per Timer) (clock : Nat) (c : Resource → Instr) : List Instr :=
  dueAt t.cool clock (c .cool) ++ dueAt t.heat clock (c .heat) ++ dueAt t.power clock (c .power)

/-- R146: the end of the on-time of a channel's period, while its output is on. -/
def Channel.onTimeEnd (c : Channel) (ch : DutyChannel) : Timer :=
  if c.on ∧ c.active < 1000 then c.start.map fun t => t + onTime ch c.active else none

/-- R146: the end of a channel's period. -/
def Channel.periodDue (c : Channel) (ch : DutyChannel) : Timer := c.start.map fun t => t + periodOf ch

/-- R146: the period and on-time ends of one channel. -/
def Drives.channelDue (d : Drives) (ch : DutyChannel) (clock : Nat) : List Instr :=
  dueAt ((d.channel ch).onTimeEnd ch) clock (.onTimePassed ch) ++
    dueAt ((d.channel ch).periodDue ch) clock (.periodEnd ch)

/-- The due expiries of the channels; `level` is the end-stop level a step reads. -/
def Drives.due (d : Drives) (clock : Nat) (level : Bool) : List Instr :=
  d.channelDue .blower clock ++ d.channelDue .heatValve clock ++ d.channelDue .coolValve clock ++
  dueAt d.restTimer clock .coolValveRestEnd ++ dueAt d.damper.stepTimer clock (.stepTimerExpiry level) ++
  dueAt d.damper.deadTimer clock .deadTimerExpiry ++ dueAt d.fan.stallTimer clock .stallTimerExpiry ++
  dueAt d.fan.restartTimer clock .restartTimerExpiry ++
  dueAt d.fan.goodRunTimer clock .goodRunTimerExpiry

/-- The due expiries of the Zone Loop. -/
def ZoneLoop.due (z : ZoneLoop) (clock : Nat) : List Instr :=
  dueAt z.controlTimer clock .controlIntervalExpiry ++ dueAt z.switchTimer clock .switchTimerExpiry ++
  dueAt z.boostTimer clock .boostTimerExpiry ++ dueAt z.holdTimer clock .holdTimerExpiry ++
  dueAt z.frostTimer clock .frostTimerExpiry

/-- The due expiries of the Membership Controller; `count` is the count a freeze sample reads. -/
def Membership.due (m : Membership) (clock : Nat) (count : BitVec 12) : List Instr :=
  dueAt m.settleTimer clock .settleTimerExpiry ++ dueAt m.censusTimer clock .censusTimerExpiry ++
  dueAt m.selfSilence.timer clock .selfSilenceExpiry ++ dueAt m.wakeTimer clock .wakeTimerExpiry ++
  dueAt m.sampleTimer clock (.sampleTimerExpiry count)

/-- The due expiries of table, records and queue. -/
def State.sharesDue (s : State) : List Instr :=
  dueAt s.stb.ageTimer s.clock .ageTickExpiry ++
  dueAt s.stb.untrackedTimer s.clock .untrackedTimerExpiry ++
  duePer (s.csr.capacity.map fun c => c.timer.timer) s.clock .supplyTimerExpiry ++
  dueAt s.txq.stateTimer s.clock .stateTimerExpiry ++
  duePer s.txq.holdOff s.clock .refusalHoldOffExpiry ++ duePer s.txq.spacing s.clock .spacingExpiry

/-- Every expiry that is due. What an expiry reads from outside is a free value (log entry 19). -/
def State.due (s : State) : List Instr :=
  let outside := Config.freeChoice (s.freeCount + 1)
  dueAt s.sup.recovery s.clock .recoveryTimerExpiry ++
  dueAt s.cfg.readTimer s.clock .configReadTimeout ++ s.sharesDue ++
  s.mbr.due s.clock (BitVec.ofNat 12 outside) ++ dueAt s.lnk.quietTimer s.clock .quietTimerExpiry ++
  s.zlp.due s.clock ++ s.dcc.due s.clock (decide (outside % 2 = 1)) ++
  dueAt s.svc.interByte s.clock .interByteTimerExpiry

/-- The expiry the clock runs next, if any is due: which of several is a free value. -/
def State.nextExpiry (s : State) : Option Instr :=
  match s.due with
  | [] => none
  | [c] => some c
  | c :: c' :: cs => some ((c :: c' :: cs).getD (s.free % (cs.length + 2)) c)

/-- The free values of one idle step are used up. -/
def State.drawnTwice (s : State) : State := s.setFreeCount (s.freeCount + 2)

/-- R66, R75: a fault flag whose seven bits have passed (log entry 10). -/
def Link.flagEnded (l : Link) (clock : Nat) : Link :=
  match l.flagTimer with
  | none => l
  | some t =>
    if l.state = .flag ∧ t ≤ clock then
      { l with state := .seekingIdle, recessive := 0, flagTimer := none }
    else l

/-- One clock unit passes. -/
def State.tick (s : State) : State :=
  (s.setClock (s.clock + 1)).setLnk (s.lnk.flagEnded (s.clock + 1))

end Sys2Proof.Machine
end

