-- ==== Sys2Proof/Machine/Table.lean ====
section
/-! DEFINITION. The Share Table's operations: totals and shares (R17, R18), recency order, creation, refresh and eviction (R4 to R13), outdoor selection (R20), start content and zeroing (R21 to R23). -/

namespace Sys2Proof.Machine

/-! ### Totals, weight sum, fair share -/

/-- R17: the counted entries: the self entry and every PRESENT entry. -/
def ShareTable.counted (t : ShareTable) : List Entry :=
  t.self.toList ++ t.order.filter (·.present)

/-- R17: the total of a resource. -/
def ShareTable.total (t : ShareTable) (r : Resource) : Nat :=
  (t.counted.map fun e => e.committed.get r).sum

/-- 1.2: the weight of an entry, 1 standing in while absent. -/
def Entry.weightOr1 (e : Entry) : Nat := e.weight.getD 1

/-- 1.2: the floor of an entry, 0 standing in while absent. -/
def Entry.floorOr0 (e : Entry) (r : Resource) : Nat := (e.floor.get r).getD 0

/-- 1.2: the demand of an entry, its committed value standing in while absent. -/
def Entry.demandOr (e : Entry) (r : Resource) : Nat := (e.demand.get r).getD (e.committed.get r)

/-- R17: the weight sum W. -/
def ShareTable.weightSum (t : ShareTable) : Nat := (t.counted.map Entry.weightOr1).sum

/-- R18: floor(capacity × weight / W). -/
def fairShare (capacity weight w : Nat) : Nat := capacity * weight / w

/-- The entry of a peer address. -/
def ShareTable.peer (t : ShareTable) (address : Nat) : Option Entry :=
  t.order.find? fun e => e.address == address

/-- R31: an eighth of the capacity is kept for PROTECTION raises. -/
def reserve (capacity : Nat) : Nat := capacity / 8

/-! ### Eviction and places -/

/-- R12: an eviction candidate is unpinned and holds committed 0 in all three resources. -/
def Entry.evictable (e : Entry) : Bool :=
  !e.pinned && decide (e.committed = .all 0)

/-- R1: a place is free beside the self entry. -/
def ShareTable.hasPlace (t : ShareTable) : Bool := decide (t.order.length + 1 < Config.tablePlaces)

/-- R12: the candidate nearest the tail removed; none when there is no candidate. -/
def evictFrom : List Entry → Option (List Entry)
  | [] => none
  | e :: es =>
    match evictFrom es with
    | some es' => some (e :: es')
    | none => if e.evictable then some es else none

/-- R7: the table's answer to the Claim Judge: whether an entry stands or could be made for a sender. -/
def ShareTable.canHold (t : ShareTable) (address : Nat) : Bool :=
  (t.peer address).isSome || t.hasPlace || (evictFrom t.order).isSome

/-! ### Refresh and creation -/

/-- R4, R6: the entry of an address removed from its place. -/
def dropAddress (es : List Entry) (address : Nat) : List Entry :=
  es.filter fun e => e.address != address

/-- R4: an entry placed at the head of the recency order, any other place of its address removed. -/
def ShareTable.toHead (t : ShareTable) (e : Entry) : ShareTable :=
  { t with order := e :: dropAddress t.order e.address }

/-- R8: an entry with no content beyond its address. -/
def Entry.bare (address : Nat) : Entry :=
  { address := address, pinned := false, present := true, age := 0, weight := none
    committed := .all 0, floor := .all none, demand := .all none, lastClass := .all none
    zoneTemp := none, outdoor := none, mode := none, shed := false }

/-- R8, R10: the fields a STATE sets; last class is kept. -/
def Entry.withState (e : Entry) (c : StateContent) : Entry :=
  { e with weight := some c.weight, committed := c.committed, floor := c.floor.map some
           demand := c.demand.map some, zoneTemp := c.zone.map (·.temp)
           outdoor := c.outdoor, mode := c.zone.map (·.mode), shed := c.shed }

/-- R8: the content of an entry created by a frame; none for the kinds that create none (R6). -/
def createdBy (address : Nat) : FrameBody → Option Entry
  | .state c => some ((Entry.bare address).withState c)
  | .join w => some { Entry.bare address with weight := some w }
  | .request r _ before _ _ =>
    some { Entry.bare address with committed := (Per.all 0).set r before }
  | .release r newDraw =>
    some { Entry.bare address with committed := (Per.all 0).set r newDraw }
  | .supply _ _ => none
  | .setpoint _ _ _ _ => none
  | .park _ _ => none
  | .wake => none

/-- R10, R11: what the content of a frame does to a PRESENT entry: a STATE overwrites, a JOIN resets, the other kinds leave it. -/
def Entry.overwrittenBy (e : Entry) : FrameBody → Entry
  | .state c => e.withState c
  | .join w => { Entry.bare e.address with weight := some w, pinned := e.pinned }
  | .request _ _ _ _ _ => e
  | .release _ _ => e
  | .supply _ _ => e
  | .setpoint _ _ _ _ => e
  | .park _ _ => e
  | .wake => e

/-- R7, R9: the PEER_NEW event. -/
def State.raisePeerNew (s : State) (address : Nat) : State :=
  s.raise { block := .stb, slot := 0 } .peerNew (some address) none none

/-- R13: a frame whose content is not recorded sets the flag, restarts the timer and raises TABLE_FULL on the first of an episode. -/
def State.unrecorded (s : State) (address : Nat) : State :=
  let s' := s.setStb { s.stb with untracked := true, untrackedTimer := s.after Config.untrackedTime }
  if s.stb.untracked then s'
  else s'.raise { block := .stb, slot := 0 } .tableFull (some address) none none

/-- R7, R12: the creation of an entry for an address that has none. -/
def State.create (s : State) (e : Entry) : State :=
  if s.stb.hasPlace then (s.setStb (s.stb.toHead e)).raisePeerNew e.address
  else
    match evictFrom s.stb.order with
    | some es => (s.setStb ({ s.stb with order := es }.toHead e)).raisePeerNew e.address
    | none => s.unrecorded e.address

/-- R5 to R12: the Share Table's own part of a taken frame from a peer: creation or refresh of the sender's entry, then the frame's content for STATE and JOIN. -/
def State.seat (s : State) (address : Nat) (f : FrameBody) : State :=
  match s.stb.peer address with
  | some e =>
    if e.present then s.setStb (s.stb.toHead { e.overwrittenBy f with age := 0 })
    else
      match createdBy address f with
      | some n => (s.setStb (s.stb.toHead { n with pinned := e.pinned })).raisePeerNew address
      | none => s
  | none =>
    match createdBy address f with
    | some n => s.create n
    | none => s

/-- A change to the entry of a peer address, its place kept. -/
def ShareTable.mapPeer (t : ShareTable) (address : Nat) (f : Entry → Entry) : ShareTable :=
  { t with order := t.order.map fun e => if e.address == address then f e else e }

/-- R35, R36: the outcome of a REQUEST on the sender's entry. -/
def Entry.withRequest (e : Entry) (r : Resource) (c : ClaimClass) (raise demand : Nat)
    (accepted : Bool) : Entry :=
  { e with committed :=
             if accepted then e.committed.set r (min 1023 (e.committed.get r + raise))
             else e.committed
           demand := e.demand.set r (some demand)
           lastClass := e.lastClass.set r (some c) }

/-- R38: a RELEASE on the sender's entry. -/
def Entry.withRelease (e : Entry) (r : Resource) (newDraw : Nat) : Entry :=
  { e with committed := e.committed.set r newDraw }

/-! ### Outdoor reading -/

/-- R20: the better of two peer readings, the first standing nearer the head. -/
def betterOutdoor : Option OutdoorReading → Option OutdoorReading → Option OutdoorReading
  | none, b => b
  | a, none => a
  | some a, some b => if b.age < a.age then some b else some a

/-- R20: the reading of the PRESENT peers with the smallest outdoor age, nearer the head between equals. -/
def peerOutdoor : List Entry → Option OutdoorReading
  | [] => none
  | e :: es => betterOutdoor (if e.present then e.outdoor else none) (peerOutdoor es)

/-- R20: the outdoor reading the table gives: the self entry's, otherwise a peer's. -/
def ShareTable.outdoorReading (t : ShareTable) : Option OutdoorReading :=
  match t.self.bind (·.outdoor) with
  | some o => some o
  | none => peerOutdoor t.order

/-! ### Ageing and lapse -/

/-- R14: the outdoor age 2 s older, saturating at 255. -/
def OutdoorReading.aged (o : OutdoorReading) : OutdoorReading := { o with age := min 255 (o.age + 2) }

/-- R16: a pinned entry become ABSENT. -/
def Entry.absent (e : Entry) : Entry :=
  { address := e.address, pinned := e.pinned, present := false, age := 3, weight := none
    committed := .all 0, floor := .all none, demand := .all (some 0), lastClass := .all none
    zoneTemp := none, outdoor := none, mode := none, shed := false }

/-- R14: whether an entry lapses at this tick. -/
def Entry.lapses (e : Entry) : Bool := e.present && decide (3 ≤ e.age + 1)

/-- R14 to R16: one non-self entry at an age tick; none is removed. -/
def Entry.ticked (e : Entry) : Option Entry :=
  if e.lapses then (if e.pinned then some e.absent else none)
  else if e.present then some { e with age := e.age + 1, outdoor := e.outdoor.map .aged }
  else some { e with outdoor := e.outdoor.map .aged }

/-- R15, R16: a lapse: its event (events of several lapses enter in either order) and its count. -/
def State.raiseLapsed (s : State) (address : Nat) : State :=
  (s.raise { block := .stb, slot := address } .peerLapsed (some address) none none).bump .peerLapses

/-! ### Start content and zeroing -/

/-- R21: the self entry of the start content. -/
def selfStart (img : Image) (shed : Bool) : Entry :=
  { address := img.address, pinned := false, present := true, age := 0, weight := some img.weight
    committed := .all 0, floor := img.floor.map some, demand := .all (some 0)
    lastClass := .all none, zoneTemp := none, outdoor := none, mode := none, shed := shed }

/-- R21: a pinned entry of the start content. -/
def pinnedStart (address : Nat) : Entry :=
  { Entry.absent { Entry.bare address with pinned := true } with address := address }

/-- 9.1: SHED stands while the level is WARN. -/
def Supply.shed (u : Supply) : Bool := decide (u.level = .warn)

/-- R21, R22: the table at its start content from the image, its age tick timer as given. -/
def ShareTable.started (img : Image) (shed : Bool) (ageTimer : Timer) : ShareTable :=
  { self := some (selfStart img shed), order := img.pinned.map pinnedStart, untracked := false
    untrackedTimer := none, ageTimer := ageTimer }

/-- R22: the table cleared to its start content, the age tick running on. -/
def State.clearTable (s : State) : State :=
  match s.cfg.image with
  | none => s
  | some img => s.setStb (.started img s.sup.shed s.stb.ageTimer)

/-- R23: the self entry with committed 0, demand 0 and no last class. -/
def Entry.zeroed (e : Entry) : Entry :=
  { e with committed := .all 0, demand := .all (some 0), lastClass := .all none }

end Sys2Proof.Machine
end

