-- ==== Sys2Proof/Machine/Flags.lean ====
section
/-! DEFINITION. What follows a change of the table, the capacities or the self entry: caps and interlock (R141 to R143), release targets and cuts (R42, R43), overdraw flags (R40), the shed flag (R140, R168) and the blower's reports (R144). -/

namespace Sys2Proof.Machine

/-! ### Caps and the airflow interlock -/

/-- R141: an amount lowered to the release target when one is held. -/
def belowTarget (target : Option Nat) (amount : Nat) : Nat :=
  match target with
  | none => amount
  | some t => min amount t

/-- R141: held(r). -/
def State.heldDraw (s : State) (e : Entry) (r : Resource) : Nat :=
  belowTarget (s.cjg.releaseTarget.get r) (min (e.demandOr r) (e.committed.get r))

/-- R141: the blower duty cap. -/
def State.blowerCap (s : State) (img : Image) (e : Entry) : Nat :=
  min (min s.zlp.blowerDuty
    (belowTarget s.cjg.releaseTarget.power e.committed.power * 1000 / img.blowerFull)) 1000

/-- R142: the airflow interlock as it evaluates now. -/
def State.interlockNow (s : State) (img : Image) (e : Entry) : Bool :=
  decide (s.blowerCap img e < img.airflowMin) || decide (s.dcc.fan.condition ≠ .running)

/-- R142: the self entry's HEAT and COOL demands set to 0. -/
def Entry.withoutValves (e : Entry) : Entry :=
  { e with demand := { e.demand with cool := some 0, heat := some 0 } }

/-- R142: the interlock evaluated, with its effects on the self entry and, at its onset in MEMBER, on the queue. -/
def State.evalInterlock (s : State) (img : Image) (e : Entry) : State :=
  if s.interlockNow img e then
    let s' := (s.setZlp { s.zlp with interlock := true }).mapSelf Entry.withoutValves
    if !s.zlp.interlock && s.isMember then (s'.forceRelease .cool 0).forceRelease .heat 0 else s'
  else s.setZlp { s.zlp with interlock := false }

/-- R141, R142: the three caps. -/
structure Caps where
  blower : Nat
  heat : Nat
  cool : Nat
deriving DecidableEq, Repr

/-- R141, R142: the caps from the self entry, 0 for the valves while the interlock stands. -/
def State.caps (s : State) (img : Image) (e : Entry) : Caps :=
  { blower := s.blowerCap img e
    heat := if s.zlp.interlock then 0 else s.heldDraw e .heat * 1000 / img.heatRating
    cool := if s.zlp.interlock then 0 else s.heldDraw e .cool * 1000 / img.coolRating }

/-- R143: the caps pushed to the drive channels. -/
def State.pushCaps (s : State) (c : Caps) : State :=
  s.changeDrives fun d =>
    ((d.pushCap .blower c.blower (s.follows .blower) s.clock).pushCap .heatValve c.heat
      (s.follows .heatValve) s.clock).pushCap .coolValve c.cool (s.follows .coolValve) s.clock

/-- R143: the caps and the interlock recomputed and pushed, wherever the table has content. -/
def State.recomputeCaps (s : State) : State :=
  match s.cfg.image, s.stb.self with
  | some img, some e =>
    let s' := s.evalInterlock img e
    match s'.stb.self with
    | some e' => s'.pushCaps (s'.caps img e')
    | none => s'
  | _, _ => s

/-! ### Release targets and the cut -/

/-- The release target of a resource replaced. -/
def State.setTarget (s : State) (r : Resource) (t : Option Nat) : State :=
  s.setCjg { s.cjg with releaseTarget := s.cjg.releaseTarget.set r t }

/-- R45, R143: a release target become absent. -/
def State.dropTarget (s : State) (r : Resource) : State := (s.setTarget r none).recomputeCaps

/-- R43: whether an offered target is taken. -/
def takesTarget (held : Option Nat) (t : Nat) : Bool :=
  match held with
  | none => true
  | some h => decide (t < h)

/-- R43: a release target offered by a cut or a yield. -/
def State.offerTarget (s : State) (r : Resource) (t : Nat) : State :=
  if takesTarget (s.cjg.releaseTarget.get r) t then
    ((s.setTarget r (some t)).recomputeCaps).ask (.claim r (.release t))
  else s

/-- R42: A, the committed draw above the floors. -/
def ShareTable.aboveFloors (t : ShareTable) (r : Resource) : Nat :=
  (t.counted.map fun e => e.committed.get r - e.floorOr0 r).sum

/-- R42: the own cut of a resource whose total exceeds its capacity by `excess`. -/
def cutAmount (excess above own ownFloor total : Nat) : Nat :=
  if 0 < above then ceilDiv (excess * (own - ownFloor)) above else ceilDiv (excess * own) total

/-- R42: the cut computed, and its target offered when it lies below the own draw. -/
def State.computeCut (s : State) (r : Resource) : State :=
  match s.stb.self with
  | none => s
  | some e =>
    let own := e.committed.get r
    let total := s.stb.total r
    let c := cutAmount (total - (s.csr.capacity.get r).value) (s.stb.aboveFloors r) own
      (e.floorOr0 r) total
    if own - c < own then s.offerTarget r (own - c) else s

/-! ### Overdraw -/

/-- The overdraw flag of a resource replaced. -/
def State.setOverdraw (s : State) (r : Resource) (b : Bool) : State :=
  s.setCjg { s.cjg with overdraw := s.cjg.overdraw.set r b }

/-- R40, R41: the overdraw flag of one resource re-evaluated. -/
def State.evalOverdraw (s : State) (r : Resource) : State :=
  let total := s.stb.total r
  let capacity := (s.csr.capacity.get r).value
  let origin : Origin := { block := .cjg, slot := resourceCode r }
  if capacity < total then
    if s.cjg.overdraw.get r then s
    else
      let s' := (s.setOverdraw r true).raise origin .overdrawBegin none (some r)
        (some (total - capacity))
      if s.isMember then s'.computeCut r else s'
  else if s.cjg.overdraw.get r then
    (s.setOverdraw r false).raise origin .overdrawEnd none (some r) (some total)
  else s

/-- R19, R40: the notice of a table change to the Claim Judge. -/
def State.tableChanged (s : State) : State :=
  ((s.evalOverdraw .cool).evalOverdraw .heat).evalOverdraw .power

/-- R19, R143: the notices of a change of the self entry. -/
def State.selfChanged (s : State) : State := s.tableChanged.recomputeCaps

/-! ### Shed -/

/-- R140: the blower duty that a POWER floor runs. -/
def shedDuty (floor full : Nat) : Nat := floor * 1000 / full

/-- R140, R168: in MEMBER, at the change of the shed flag to yes, demand and blower duty lowered to the POWER floor and the forced release asked for. -/
def State.shedNow (s : State) : State :=
  match s.cfg.image, s.stb.self with
  | some img, some e =>
    let f := e.floorOr0 .power
    let s1 := s.setZlp { s.zlp with
      demand := { s.zlp.demand with power := min s.zlp.demand.power f }
      blowerDuty := min s.zlp.blowerDuty (shedDuty f img.blowerFull) }
    let s2 := s1.mapSelf fun x =>
      { x with demand := { x.demand with power := some (min (x.demandOr .power) f) } }
    s2.forceRelease .power f
  | _, _ => s

/-- R168: a forced release to the POWER floor after a change of the own POWER while SHED stands. -/
def State.shedGuard (s : State) : State :=
  match s.stb.self with
  | some e => if s.isMember && e.shed then s.forceRelease .power (e.floorOr0 .power) else s
  | none => s

/-- R168: the shed flag of the self entry set at a change of SHED, with its effects. -/
def State.setShed (s : State) (b : Bool) : State :=
  match s.stb.self with
  | none => s
  | some _ =>
    let s1 := s.mapSelf fun e => { e with shed := b }
    let s2 := if b && s1.isMember then s1.shedNow else s1
    let s3 := if s2.mbr.station.drives then s2.ask .state else s2
    s3.selfChanged

/-! ### The blower's reports -/

/-- R144: STALLED or FAULT reported in MEMBER. -/
def State.blowerStopped (s : State) : State :=
  let s1 := s.setZlp { s.zlp with demand := { s.zlp.demand with power := 0 }, blowerDuty := 0 }
  let s2 := s1.mapSelf fun e => { e with demand := .all (some 0) }
  (((s2.forceRelease .cool 0).forceRelease .heat 0).forceRelease .power 0).recomputeCaps

/-- R143, R144: the blower's new condition reported to the Zone Loop. -/
def State.blowerReport (s : State) : State :=
  if s.isMember && decide (s.dcc.fan.condition ≠ .running) then s.blowerStopped else s.recomputeCaps

end Sys2Proof.Machine
end

