-- ==== Sys2Proof/Machine/Judge.lean ====
section
/-! DEFINITION. The judgement of a REQUEST: the six tests in order (R28 to R32). -/

namespace Sys2Proof.Machine

/-- A claim as it is judged: the sender and the fields of its REQUEST (R70). -/
structure Claim where
  sender : Nat
  resource : Resource
  claimClass : ClaimClass
  drawBefore : Nat
  raise : Nat
deriving DecidableEq, Repr

/-- R28: the entry a judgement reads for an address: the self entry for the own address, otherwise the peer's. -/
def State.entryOf (s : State) (address : Nat) : Option Entry :=
  if address = s.ownAddress then s.stb.self else s.stb.peer address

/-- R17: an entry that stands and is counted. -/
def countedEntry (e : Option Entry) : Bool :=
  match e with
  | some x => x.present
  | none => false

/-- Test 1, UNTRACKED (R29). -/
def State.failsUntracked (s : State) : Bool := s.stb.untracked

/-- Test 2, NO_ENTRY (R29). -/
def State.failsNoEntry (s : State) (c : Claim) : Bool :=
  decide (c.sender ≠ s.ownAddress) && !s.stb.canHold c.sender

/-- Test 3, MISMATCH (R30). -/
def State.failsMismatch (s : State) (c : Claim) : Bool :=
  match s.entryOf c.sender with
  | none => false
  | some e => e.present && decide (e.committed.get c.resource ≠ c.drawBefore)

/-- Test 4, OVERDRAW (R31). -/
def State.failsOverdraw (s : State) (c : Claim) : Bool := s.cjg.overdraw.get c.resource

/-- R31: the limit of a class. -/
def classLimit (capacity : Nat) : ClaimClass → Nat
  | .protection => capacity
  | .recovery => capacity - reserve capacity
  | .comfort => capacity - reserve capacity

/-- R31: the projected total. -/
def State.projectedTotal (s : State) (c : Claim) : Nat :=
  if countedEntry (s.entryOf c.sender) then s.stb.total c.resource
  else s.stb.total c.resource + c.drawBefore

/-- Test 5, LIMIT (R31). -/
def State.failsLimit (s : State) (c : Claim) : Bool :=
  decide (classLimit (s.csr.capacity.get c.resource).value c.claimClass <
    s.projectedTotal c + c.raise)

/-- R32: the weight sum with the sender counted. -/
def State.judgedWeightSum (s : State) (c : Claim) : Nat :=
  match s.entryOf c.sender with
  | none => s.stb.weightSum + 1
  | some e => if e.present then s.stb.weightSum else s.stb.weightSum + e.weightOr1

/-- R32: the sender's entitlement, the greater of its fair share and its floor. -/
def State.entitlement (s : State) (c : Claim) : Nat :=
  match s.entryOf c.sender with
  | none => fairShare (s.csr.capacity.get c.resource).value 1 (s.judgedWeightSum c)
  | some e =>
    max (fairShare (s.csr.capacity.get c.resource).value e.weightOr1 (s.judgedWeightSum c))
      (e.floorOr0 c.resource)

/-- R32: some counted entry other than the sender's is short. -/
def State.othersShort (s : State) (c : Claim) : Bool :=
  s.stb.counted.any fun e =>
    decide (e.address ≠ c.sender) && decide (e.committed.get c.resource < e.demandOr c.resource)

/-- Test 6, FAIRNESS (R32). -/
def State.failsFairness (s : State) (c : Claim) : Bool :=
  match c.claimClass with
  | .comfort => decide (s.entitlement c < c.drawBefore + c.raise) && s.othersShort c
  | .recovery => false
  | .protection => false

/-- R28: the number of the first test that fails, or none when all six pass. -/
def State.judge (s : State) (c : Claim) : Option Nat :=
  if s.failsUntracked then some 1
  else if s.failsNoEntry c then some 2
  else if s.failsMismatch c then some 3
  else if s.failsOverdraw c then some 4
  else if s.failsLimit c then some 5
  else if s.failsFairness c then some 6
  else none

/-- R28: the verdict of a judgement on a frame: VETO recorded and counted at a failing test, to be driven in its slot (`State.withholdVeto`). -/
def State.driveVerdict (s : State) (c : Claim) : State :=
  match s.judge c with
  | none => s.setLnk { s.lnk with vetoDriven := false }
  | some t =>
    let s' := s.setCjg { s.cjg with
      lastVeto := some { resource := c.resource, sender := c.sender, test := t } }
    (s'.setLnk { s'.lnk with
      vetoDriven := true
      vetoNote := { slot := s.clock + Config.vetoDelay, count := s.lnk.counters.vetoesDriven
                    record := s.cjg.lastVeto } }).bump .vetoesDriven

/-- R89: a count of vetoes without the VETO noted, unless the counter has been cleared since. -/
def VetoNote.uncount (n : VetoNote) (c : Counter) : Counter := if c = n.count.bump then n.count else c

/-- R28, R79, R80, R89: the station leaves MEMBER within a frame. A VETO whose slot has begun stands (R33); a later one is not driven, so it is not recorded and not counted (log entry 42). -/
def State.withholdVeto (s : State) : State :=
  if s.lnk.vetoDriven && decide (s.clock < s.lnk.vetoNote.slot) then
    (s.setCjg { s.cjg with lastVeto := s.lnk.vetoNote.record }).setLnk { s.lnk with
      vetoDriven := false
      counters := { s.lnk.counters with
        vetoesDriven := s.lnk.vetoNote.uncount s.lnk.counters.vetoesDriven } }
  else s

/-- R28: the own verdict of an own REQUEST. -/
def verdictOf : Option Nat → OwnVerdict
  | none => .passed
  | some t => .failed t

/-- R25: the own verdict of a resource replaced. -/
def State.setVerdict (s : State) (r : Resource) (v : OwnVerdict) : State :=
  s.setCjg { s.cjg with
    ownRequest := s.cjg.ownRequest.set r { s.cjg.ownRequest.get r with ownVerdict := v } }

/-- R37: the last outcome of a resource replaced. -/
def State.setOutcome (s : State) (r : Resource) (o : LastOutcome) : State :=
  s.setCjg { s.cjg with
    ownRequest := s.cjg.ownRequest.set r { s.cjg.ownRequest.get r with lastOutcome := o } }

end Sys2Proof.Machine
end

