-- ==== Sys2Proof/Machine/Stations.lean ====
section
/-! DEFINITION. Changes of the station state and what every block does at them (R104 to R121): stopping the Zone Loop, joining, self-lapse, LINK_QUIET, ISOLATED, park, wake and the start contents. -/

namespace Sys2Proof.Machine

/-! ### Origins of events -/

/-- Events of the Membership Controller. -/
def mbrOrigin : Origin := { block := .mbr, slot := 0 }
/-- Events of the Link Controller. -/
def lnkOrigin : Origin := { block := .lnk, slot := 0 }
/-- Events of the Supply Monitor. -/
def supOrigin : Origin := { block := .sup, slot := 0 }
/-- DOOR_HOLD events of the Zone Loop. -/
def zlpOrigin : Origin := { block := .zlp, slot := 0 }
/-- Events of the blower. -/
def blowerOrigin : Origin := { block := .dcc, slot := 0 }
/-- Events of the damper. -/
def damperOrigin : Origin := { block := .dcc, slot := 1 }
/-- Events of the tach capture. -/
def tachOrigin : Origin := { block := .dcc, slot := 2 }
/-- The SETPOINT_ADOPTED event. -/
def setpointOrigin : Origin := { block := .csr, slot := 3 }

/-! ### Replacing a station state -/

/-- The station state replaced. -/
def State.setStation (s : State) (x : Station) : State := s.setMbr { s.mbr with station := x }

/-! ### The Zone Loop's stop and start -/

/-- R134: a door hold that stands ends with its event. -/
def State.endDoorHold (s : State) : State :=
  let s' := s.setZlp { s.zlp with hold := .none, holdTimer := none, ceiling := .all none }
  if s.zlp.hold = .none then s' else s'.raise zlpOrigin .doorHold none none (some 0)

/-- R125, 7.11: the loop stops: demands 0, timers stopped, damper target 0. The frost timer runs on. -/
def State.stopLoop (s : State) : State :=
  (s.endDoorHold.setZlp { s.endDoorHold.zlp with
    demand := .all 0, blowerDuty := 0, controlTimer := none, switchTimer := none
    boostTimer := none, interlock := true }).pushDamper 0

/-- R125: what entering MEMBER sets in the Zone Loop. -/
def ZoneLoop.enter (z : ZoneLoop) (controlTimer : Timer) : ZoneLoop :=
  { z with activeMode := none, subMode := .none, block := none, integHeat := 0, integCool := 0
           demand := .all 0, blowerDuty := 0, hold := .none, ceiling := .all none
           holdTimer := none, switchTimer := none, boostTimer := none, interlock := true
           controlTimer := controlTimer }

/-- R159: the tach window closes. -/
def Blower.closeWindow (b : Blower) : Blower := { b with lastWindow := b.window, window := 0 }

/-- R159: the tach window of the part closes. -/
def State.closeWindow (s : State) : State := s.setDcc { s.dcc with fan := s.dcc.fan.closeWindow }

/-! ### Zeroing and clearing -/

/-- R25: every release target absent. -/
def State.dropTargets (s : State) : State :=
  s.setCjg { s.cjg with releaseTarget := .all none }

/-- R23, R25: the own draws given up, with the notices of R19. -/
def State.zeroSelf (s : State) : State := ((s.dropTargets).mapSelf Entry.zeroed).selfChanged

/-- R49: a capacity record at its start content. -/
def CapacityRecord.start (fallback : Nat) : CapacityRecord :=
  { CapacityRecord.reset with value := fallback }

/-- R49, R59: the capacity records at their start content. -/
def State.startCapacity (s : State) : State :=
  match s.cfg.image with
  | none => s
  | some img => s.setCsr { s.csr with capacity := img.fallback.map CapacityRecord.start }

/-- R57: adoption pending in all three records. -/
def State.setAdoption (s : State) (b : Bool) : State :=
  s.setCsr { s.csr with capacity := s.csr.capacity.map fun c => { c with adoption := b } }

/-- R22, R25, R59: the clear of PARK and ISOLATED in the table, the judge and the records. -/
def State.clearShares (s : State) : State :=
  let s1 := (s.clearTable).startCapacity
  (s1.setCjg { s1.cjg with releaseTarget := .all none, ownRequest := .all .cleared }).selfChanged

/-! ### SETTLING, JOINING, MEMBER -/

/-- R107: a damper homing asked for. -/
def State.homeDamper (s : State) : State := s.changeDamper fun m => m.home s.clock

/-- R66, R107: an OFF link begins to follow the line. -/
def Link.follow (l : Link) : Link :=
  if l.state = .off then { l with state := .seekingIdle, recessive := 0 } else l

/-- R107: entry to SETTLING. -/
def State.enterSettling (s : State) : State :=
  let s1 := s.setLnk s.lnk.follow
  (s1.setMbr { s1.mbr with
    station := .settling
    settleTimer := if s1.lnk.state = .idle then s1.after Config.settleTime else none
    censusTimer := none, selfSilence := .stopped, wakeTimer := none, sampleTimer := none
    parkDepth := none }).homeDamper

/-- R108: entry to JOINING. -/
def State.enterJoining (s : State) : State :=
  let s1 := s.setMbr { s.mbr with station := .joining, settleTimer := none, censusTimer := none }
  ((s1.setTxq s1.txq.joining).setAdoption true).ask .join

/-- R53, R110: some record is FRESH with its supply timer expired. -/
def Records.anyExpired (c : Records) : Bool :=
  resources.any fun r =>
    decide ((c.capacity.get r).state = .fresh) && decide ((c.capacity.get r).timer = .expired)

/-- R110: the number of PRESENT peer entries. -/
def ShareTable.presentPeers (t : ShareTable) : Nat := (t.order.filter (·.present)).length

/-- R110: entry to MEMBER. -/
def State.enterMember (s : State) : State :=
  let s1 := (s.setMbr { s.mbr with station := .member, censusTimer := none }).raise mbrOrigin
    .joined none none (some s.stb.presentPeers)
  let s2 := s1.setAdoption false
  let s3 := if s2.csr.anyExpired then s2.ask .supplyLapse else s2
  (s3.setZlp (s3.zlp.enter (s3.after Config.controlInterval))).closeWindow

/-! ### Self-lapse, LINK_QUIET -/

/-- R112: self-lapse. -/
def State.selfLapse (s : State) : State :=
  let s1 := s.withholdVeto.raise mbrOrigin .lapsedSelf none none (some s.lnk.txVoid)
  ((s1.setStation .joining).zeroSelf).stopLoop.enterJoining

/-- R86, R113: entry to LINK_QUIET, with what caused it as value. -/
def State.enterLinkQuiet (s : State) (value : Nat) : State :=
  let s1 := s.raise lnkOrigin .linkQuiet none none (some value)
  let s2 := s1.setMbr { s1.mbr with
    station := .linkQuiet, settleTimer := none, censusTimer := none, selfSilence := .stopped }
  let s3 := s2.setLnk { s2.lnk with
    txVoid := 0, rxFault := 0, quietTimer := s2.after Config.quietTime }
  (((s3.setTxq s3.txq.discard).zeroSelf).setAdoption true).stopLoop

/-! ### ISOLATED and park -/

/-- R80: the link switched off. -/
def Link.off (l : Link) : Link :=
  { l with state := .off, recessive := 0, wire := none, vetoDriven := false, flagTimer := none }

/-- R84, R85, R88, R116: the confinement counters 0 and the quiet timer stopped. -/
def Link.calm (l : Link) : Link := { l with txVoid := 0, rxFault := 0, quietTimer := none }

/-- R88, R114: entry to ISOLATED at a frame of the given kind. -/
def State.isolate (s : State) (kind : Nat) : State :=
  let s1 := s.raise lnkOrigin .addressClash (some s.ownAddress) none (some kind)
  let s2 := s1.setMbr { s1.mbr with
    station := .isolated, settleTimer := none, censusTimer := none, selfSilence := .stopped
    wakeTimer := none, sampleTimer := none, parkDepth := none, freezeWake := false }
  let s3 := (s2.setLnk s2.lnk.off.calm).setTxq s2.txq.discard
  let s4 := s3.clearShares.stopLoop.forceAllOff
  s4.changeDamper fun m => m.isolate s4.clock

/-- R80: the link at a park: it follows the line in PARKED_LIGHT and is off in PARKED_DEEP. -/
def Link.parked (l : Link) : ParkDepth → Link
  | .light => l.calm
  | .deep => l.off.calm

/-- R116: the station state of a depth. -/
def ParkDepth.station : ParkDepth → Station
  | .light => .parkedLight
  | .deep => .parkedDeep

/-- R116: the wake timer of a wake-after. -/
def State.wakeTimerFor (s : State) (wakeAfter : Nat) : Timer :=
  if wakeAfter = 0 then none else s.after (Config.minutes wakeAfter)

/-- R116: the sample timer of a depth. -/
def State.sampleTimerFor (s : State) : ParkDepth → Timer
  | .light => s.after Config.sampleTime
  | .deep => none

/-- R116: the station parks at the end of a PARK frame. -/
def State.parkStation (s : State) (d : ParkDepth) (wakeAfter sender : Nat) : State :=
  let s1 := s.raise mbrOrigin .parked (some sender) none (some d.code)
  let s2 := s1.setMbr { s1.mbr with
    station := d.station, settleTimer := none, censusTimer := none, selfSilence := .stopped
    wakeTimer := s1.wakeTimerFor wakeAfter, sampleTimer := s1.sampleTimerFor d
    parkDepth := some d, freezeWake := false }
  let s3 := (s2.setLnk (s2.lnk.parked d)).setTxq s2.txq.discard
  s3.clearShares.stopLoop.forceAllOff

/-! ### Waking -/

/-- R119 to R121: the value of a WOKEN event. -/
def WakeSource.value : WakeSource → Nat
  | .none => 0
  | .pin => 1
  | .timer => 2
  | .wakeFrame _ => 3
  | .freeze => 4

/-- R120: the peer of a WOKEN event. -/
def WakeSource.peer : WakeSource → Option Nat
  | .wakeFrame a => some a
  | .none => Option.none
  | .pin => Option.none
  | .timer => Option.none
  | .freeze => Option.none

/-- R119 to R121: the station wakes into SETTLING. -/
def State.wakeUp (s : State) (w : WakeSource) : State :=
  let s1 := s.raise mbrOrigin .woken w.peer none (some w.value)
  (s1.setMbr { s1.mbr with lastWake := w }).enterSettling

/-- R119: a wake by pin or timer, which asks for a WAKE intent. -/
def State.wakeAndCall (s : State) (w : WakeSource) : State := (s.wakeUp w).ask .wake

/-- R121: a freeze wake. -/
def State.wakeFrozen (s : State) : State :=
  let s1 := s.wakeUp .freeze
  s1.setMbr { s1.mbr with freezeWake := true }

/-- R117, R118: the parked states. -/
def Station.parked : Station → Bool
  | .parkedLight | .parkedDeep => true
  | .configRead | .configFault | .settling | .joining | .member | .linkQuiet | .isolated => false

/-! ### The end of a read that succeeds -/

/-- R21, R49, R60, R179: every block takes its fields from the image. -/
def State.takeImage (s : State) (img : Image) : State :=
  let s1 := (s.setCfg { s.cfg with image := some img, phase := .none, readTimer := none }).setStb
    (.started img s.sup.shed (s.after Config.ageTick))
  let s2 := s1.startCapacity
  let s3 := s2.setCsr { s2.csr with
    setpoint := some { value := img.defaultSetpoint, mode := img.defaultMode, epoch := 0
                       origin := 0 } }
  (s3.setDcc (s3.dcc.startPeriods s3.clock)).setSvc { s3.svc with mask := img.defaultMask }

/-- R174: the deferred SUPPLY_WARN. -/
def State.deferredWarn (s : State) : State :=
  if s.sup.shed then s.raise supOrigin .supplyWarn none none s.sup.sample else s

end Sys2Proof.Machine
end

