-- ==== Sys2Proof/Machine/LinkOps.lean ====
section
/-! DEFINITION. The Link Controller's shared operations: the end of a frame (R66, R81), forming a frame at its start (R91, R94, R95, R54, R71), the slots a receiver drove (R77 to R80), what the takers do with a frame (R34 to R39, R50, R55, R58, R62, R63), confinement (R84 to R86). -/

namespace Sys2Proof.Machine

/-! ### Frame ends and confinement -/

/-- R66: the link after the end field of a frame. -/
def Link.endFrame (l : Link) : Link :=
  { l with state := .seekingIdle, recessive := l.endRun, endRun := 7, wire := none
           vetoDriven := false, flagTimer := none }

/-- R66, R75, R76: the link after a frame broken off: a fault flag where the station drives, otherwise SEEKING_IDLE. -/
def Link.breakOff (l : Link) (flag : Timer) : Link :=
  { l with state := if flag.isSome then .flag else .seekingIdle
           recessive := 0, endRun := 7, wire := none, vetoDriven := false, flagTimer := flag }

/-- The end of the station's frame or of another's on the line. -/
def State.endFrame (s : State) : State := s.setLnk s.lnk.endFrame

/-- R75, R76: the fault flag, where the station state permits driving (log entry 21). -/
def State.breakFrame (s : State) : State :=
  s.setLnk (s.lnk.breakOff (if s.mbr.station.drives then s.after Config.flagTime else none))

/-- R84, R86: a void own frame in JOINING or MEMBER. -/
def State.countTxVoid (s : State) : State :=
  if s.mbr.station.drives then
    if Config.confinementLimit ≤ s.lnk.txVoid + 1 then s.enterLinkQuiet 1
    else s.setLnk { s.lnk with txVoid := s.lnk.txVoid + 1 }
  else s

/-- R85, R86: a frame this station FAULTed, in JOINING or MEMBER. -/
def State.countRxFault (s : State) : State :=
  if s.mbr.station.drives then
    if Config.confinementLimit ≤ s.lnk.rxFault + 1 then s.enterLinkQuiet 2
    else s.setLnk { s.lnk with rxFault := s.lnk.rxFault + 1 }
  else s

/-! ### Offering an intent (R91) -/

/-- The intents held, claims in the order COOL, HEAT, POWER. -/
def Intents.held (q : Intents) : List Intent :=
  ([.claim .cool, .claim .heat, .claim .power, .park, .wake, .supplyLapse, .setpoint, .state,
    .join] : List Key).filterMap q.get

/-- R68, 5.1: the urgency of an intent. -/
def Intent.urgency : Intent → Nat
  | .claim _ (.release _) => 0
  | .claim _ (.request c) => c.code
  | .park _ => 3
  | .wake => 3
  | .supplyLapse => 3
  | .setpoint _ => 3
  | .state => 3
  | .join => 3

/-- 5.1: the frame kind of an intent. -/
def Intent.kindCode : Intent → Nat
  | .park _ => 0
  | .wake => 1
  | .supplyLapse => 2
  | .claim _ (.release _) => 3
  | .claim _ (.request _) => 4
  | .setpoint _ => 5
  | .state => 6
  | .join => 7

/-- R91: the arbitration value of an intent. -/
def Intent.value (i : Intent) (address : Nat) : Nat :=
  arbitrationValue i.urgency i.kindCode address

/-- R91: the intent of lowest arbitration value, the earlier of equals. -/
def lowestIntent (address : Nat) : List Intent → Option Intent
  | [] => none
  | i :: is =>
    match lowestIntent address is with
    | none => some i
    | some j => if j.value address < i.value address then some j else some i

/-- R91: the intent the queue offers. -/
def Intents.offered (q : Intents) (address : Nat) : Option Intent := lowestIntent address q.held

/-! ### Forming content (R54, R71, R95) -/

/-- R54: a record that a lapse frame names. -/
def CapacityRecord.lapseDue (c : CapacityRecord) : Bool :=
  decide (c.state = .fresh) && decide (c.timer = .expired)

/-- R54: the values of a lapse frame. -/
def State.lapseValues (s : State) (img : Image) : Per (Option Nat) :=
  Per.of fun r => if (s.csr.capacity.get r).lapseDue then some (img.fallback.get r) else none

/-- R98: the raise of a REQUEST. -/
def stepped (step : RaiseStep) (difference : Nat) : Nat :=
  match step with
  | .full => difference
  | .atMost n => min difference n

/-- R95: a REQUEST. -/
def State.formRequest (s : State) (e : Entry) (r : Resource) (c : ClaimClass) : Option FrameBody :=
  if s.isMember && decide (s.cjg.releaseTarget.get r = none) &&
      decide (e.committed.get r < e.demandOr r) then
    some (.request r c (e.committed.get r)
      (stepped (s.txq.step.get r) (e.demandOr r - e.committed.get r)) (e.demandOr r))
  else none

/-- R95: a RELEASE. -/
def State.formRelease (s : State) (e : Entry) (r : Resource) (t : Nat) : Option FrameBody :=
  let effective := belowTarget (s.cjg.releaseTarget.get r) t
  if s.mbr.station.drives && decide (effective < e.committed.get r) then
    some (.release r effective)
  else none

/-- R71: the zone fields. -/
def Entry.zoneFields (e : Entry) : Option ZoneFields :=
  match e.zoneTemp, e.mode with
  | some t, some m => some { temp := t, mode := m }
  | _, _ => none

/-- R71: the content of a STATE. -/
def State.stateContent (s : State) (e : Entry) (p : SetpointRecord) : StateContent :=
  { member := s.isMember, shed := e.shed, weight := e.weightOr1, setMode := p.mode
    committed := e.committed, demand := e.demand.map fun d => d.getD 0
    floor := e.floor.map fun f => f.getD 0
    capacity := s.csr.capacity.map (·.value), capacityState := s.csr.capacity.map (·.state)
    zone := e.zoneFields, setpointValue := p.value, setpointEpoch := p.epoch
    setpointOrigin := p.origin, outdoor := e.outdoor }

/-- R95: a STATE. -/
def State.formState (s : State) (e : Entry) : Option FrameBody :=
  match s.csr.setpoint with
  | some p => if s.mbr.station.drives then some (.state (s.stateContent e p)) else none
  | none => none

/-- R54, R95: a SUPPLY-LAPSE. -/
def State.formLapse (s : State) : Option FrameBody :=
  match s.cfg.image with
  | none => none
  | some img =>
    if s.isMember && s.csr.anyExpired then some (.supply true (s.lapseValues img)) else none

/-- R61, R95: a SETPOINT. -/
def State.formSetpoint (s : State) (p : SetpointIntent) : Option FrameBody :=
  match s.csr.setpoint with
  | none => none
  | some rec =>
    if s.mbr.station.drives then
      some (.setpoint p.value p.mode ((rec.epoch + 1) % 65536) s.ownAddress)
    else none

/-- R95: the frame an intent forms now, or none when it is dropped. -/
def State.form (s : State) (i : Intent) : Option FrameBody :=
  match s.stb.self with
  | none => none
  | some e =>
    match i with
    | .claim r (.request c) => s.formRequest e r c
    | .claim r (.release t) => s.formRelease e r t
    | .supplyLapse => s.formLapse
    | .park p => if s.isMember then some (.park p.depth p.wakeAfter) else none
    | .setpoint p => s.formSetpoint p
    | .state => s.formState e
    | .join => if s.mbr.station = .joining then some (.join e.weightOr1) else none
    | .wake => if s.mbr.station.drives then some .wake else none

/-- R45, R95: a RELEASE dropped at its start makes a held target at or above committed absent. -/
def State.dropStaleTarget (s : State) : Intent → State
  | .claim r (.release _) =>
    match s.stb.self, s.cjg.releaseTarget.get r with
    | some e, some t => if e.committed.get r ≤ t then s.dropTarget r else s
    | _, _ => s
  | .claim _ (.request _) => s
  | .park _ => s
  | .wake => s
  | .supplyLapse => s
  | .setpoint _ => s
  | .state => s
  | .join => s

/-- R94: an intent dropped at its start. -/
def State.dropIntent (s : State) (i : Intent) : State :=
  (s.setTxq { s.txq with intents := s.txq.intents.clear i.key }).dropStaleTarget i

/-- R28: the own verdict is NOT_JUDGED from the start of an own REQUEST. -/
def State.unjudge (s : State) : FrameBody → State
  | .request r _ _ _ _ => s.setVerdict r .notJudged
  | .park _ _ => s
  | .wake => s
  | .supply _ _ => s
  | .release _ _ => s
  | .setpoint _ _ _ _ => s
  | .state _ => s
  | .join _ => s

/-- R73: the start bit driven: the content is fixed and the intent is on the wire. -/
def State.startFrame (s : State) (i : Intent) (f : FrameBody) : State :=
  ((s.setLnk { s.lnk with state := .transmitting, wire := some f, endRun := 7
                          vetoDriven := false, drivesFrom := none }).setTxq
    { s.txq with onWire := some i.key }).unjudge f

/-- R94: the queue asked for a frame; `fuel` bounds the intents that can be dropped at one idle. -/
def State.offer : Nat → State → State
  | 0, s => s
  | fuel + 1, s =>
    match s.txq.intents.offered s.ownAddress with
    | none => s
    | some i =>
      match s.form i with
      | some f => s.startFrame i f
      | none => State.offer fuel (s.dropIntent i)

/-! ### The capacity and setpoint records -/

/-- R50, R55: one named record at an applied SUPPLY. -/
def State.supplyRecord (s : State) (sender : Nat) (fallback : Bool) (r : Resource) (v : Nat) :
    State :=
  let old := s.csr.capacity.get r
  let new : CapacityRecord :=
    { value := v, source := sender, state := if fallback then .lapsed else .fresh
      timer := if fallback then .stopped else .running (s.clock + Config.supplyTime)
      adoption := false }
  let s' := s.setCsr { s.csr with capacity := s.csr.capacity.set r new }
  if fallback && decide (old.state ≠ .lapsed) then
    s'.raise { block := .csr, slot := resourceCode r } .capacityLapse (some sender) (some r) (some v)
  else s'

/-- R50: a record if it is named. -/
def State.supplyNamed (s : State) (sender : Nat) (fallback : Bool) (values : Per (Option Nat))
    (r : Resource) : State :=
  match values.get r with
  | none => s
  | some v => s.supplyRecord sender fallback r v

/-- R50, R51: an applied SUPPLY. -/
def State.applySupply (s : State) (sender : Nat) (fallback : Bool) (values : Per (Option Nat)) :
    State :=
  (((s.supplyNamed sender fallback values .cool).supplyNamed sender fallback values
    .heat).supplyNamed sender fallback values .power).tableChanged

/-- R58: one record at an adoption. -/
def CapacityRecord.adopt (c : CapacityRecord) (sender value : Nat) (state : CapacityState)
    (deadline : Nat) : CapacityRecord :=
  if c.adoption then
    { value := value, source := sender, state := state
      timer := if state = .fresh then .running deadline else .stopped
      adoption := false }
  else c

/-- R58: the three records take the STATE's figures where adoption is pending. -/
def State.adoptCapacity (s : State) (sender : Nat) (c : StateContent) : State :=
  let adopted := Per.of fun r =>
    (s.csr.capacity.get r).adopt sender (c.capacity.get r) (c.capacityState.get r)
      (s.clock + Config.supplyTime)
  (s.setCsr { s.csr with capacity := adopted }).tableChanged

/-- R58: whether a STATE is adopted from: its sender was a member and some mark is set. -/
def Records.adopts (x : Records) (c : StateContent) : Bool :=
  c.member && (x.capacity.cool.adoption || x.capacity.heat.adoption || x.capacity.power.adoption)

/-- File 00: (a − b) mod 65536. -/
def epochAhead (a b : Nat) : Nat := (a + 65536 - b % 65536) % 65536

/-- File 00: epoch a is newer than epoch b. -/
def newerEpoch (a b : Nat) : Bool := decide (1 ≤ epochAhead a b) && decide (epochAhead a b ≤ 32767)

/-- R62, R63: the setpoint record takes the offered one and raises its event. -/
def State.adoptSetpoint (s : State) (value : Nat) (mode : SetMode) (epoch origin : Nat) : State :=
  (s.setCsr { s.csr with
    setpoint := some { value := value, mode := mode, epoch := epoch, origin := origin } }).raise
    setpointOrigin .setpointAdopted (some origin) none (some value)

/-- R62: a SETPOINT, whose equal epoch is adopted. -/
def State.offerSetpoint (s : State) (value : Nat) (mode : SetMode) (epoch origin : Nat) : State :=
  match s.csr.setpoint with
  | none => s
  | some p =>
    if newerEpoch epoch p.epoch || decide (epoch = p.epoch) then
      s.adoptSetpoint value mode epoch origin
    else s

/-- R63: a STATE's setpoint, adopted only from a strictly newer epoch. -/
def State.offerStateSetpoint (s : State) (c : StateContent) : State :=
  match s.csr.setpoint with
  | none => s
  | some p =>
    if newerEpoch c.setpointEpoch p.epoch then
      s.adoptSetpoint c.setpointValue c.setMode c.setpointEpoch c.setpointOrigin
    else s

/-! ### Arrivals -/

/-- A change to the entry of a peer address. -/
def State.mapPeer (s : State) (address : Nat) (f : Entry → Entry) : State :=
  s.setStb (s.stb.mapPeer address f)

/-- R34 to R36: a REQUEST from a peer with its outcome. -/
def State.takeRequest (s : State) (sender : Nat) (f : FrameBody) (accepted : Bool) : State :=
  match f with
  | .request r c _ raise demand =>
    ((s.seat sender f).mapPeer sender fun e => e.withRequest r c raise demand accepted).tableChanged
  | _ => s

/-- R38: a RELEASE from a peer. -/
def State.takeRelease (s : State) (sender : Nat) (f : FrameBody) : State :=
  match f with
  | .release r newDraw =>
    ((s.seat sender f).mapPeer sender fun e => e.withRelease r newDraw).tableChanged
  | _ => s

/-- R10, R58, R63: a STATE from a peer. Where it is adopted from, a free value decides whether table or capacity acts first (log entry 5). -/
def State.takeState (s : State) (sender : Nat) (f : FrameBody) : State :=
  match f with
  | .state c =>
    if s.csr.adopts c then
      if s.free % 2 = 0 then
        (((s.drawn.seat sender f).tableChanged).adoptCapacity sender c).offerStateSetpoint c
      else (((s.drawn.adoptCapacity sender c).seat sender f).tableChanged).offerStateSetpoint c
    else ((s.seat sender f).tableChanged).offerStateSetpoint c
  | _ => s

/-- R11, R100: a JOIN from a peer. -/
def State.takeJoin (s : State) (sender : Nat) (f : FrameBody) : State :=
  let s' := (s.seat sender f).tableChanged
  if s'.isMember then s'.ask .state else s'

/-- R81: a good frame of a peer handed to the blocks that take it. -/
def State.take (s : State) (sender : Nat) (accepted : Bool) (f : FrameBody) : State :=
  match f with
  | .request _ _ _ _ _ => s.takeRequest sender f accepted
  | .release _ _ => s.takeRelease sender f
  | .supply fb vs => (s.seat sender f).applySupply sender fb vs
  | .setpoint v m e o => (s.seat sender f).offerSetpoint v m e o
  | .state _ => s.takeState sender f
  | .join _ => s.takeJoin sender f
  | .park d w => (s.seat sender f).parkStation d w sender
  | .wake => s.seat sender f

/-- R80: at the end of a frame being received, whether the station drove in the part of it that began `beforeEnd` ago: where LINK_QUIET ended within the frame, only a part that began after that follows the JOINING row (log entry 42). -/
def State.droveSlot (s : State) (beforeEnd : Nat) : Bool :=
  s.mbr.station.drives &&
    match s.lnk.drivesFrom with
    | none => true
    | some t => decide (t + beforeEnd ≤ s.clock)

/-- R77 to R79: what this station drove in the slots of a frame it received, at the frame's end. -/
def State.slotsDriven (s : State) (kind : BitVec 3) (b : RxBody) : Slots :=
  { ack := s.droveSlot Config.ackToEnd && checkGood kind b
    fault := s.droveSlot Config.faultToEnd && !checkGood kind b
    veto := s.lnk.vetoDriven }

/-- R78, R85: a frame whose check failed here, FAULTed by this station or not. -/
def State.arriveBad (s : State) (faulted : Bool) (slots : Slots) : State :=
  let s1 := s.endFrame.bump .checkFailures
  let s2 := if slots.fault || faulted then s1.bump .voidsSeen else s1
  if faulted then s2.countRxFault else s2

/-- R72, R85, R89: what a good, non-void frame does at the Link Controller before it is handed on. -/
def State.arriveGood (s : State) : State :=
  let s1 := s.bump .framesGood
  s1.setLnk { s1.lnk with rxFault := 0 }

/-- R72: the malformed counter. -/
def State.countMalformed (s : State) (f : Option FrameBody) : State :=
  if f.isNone then s.bump .malformed else s

/-- R81: a good frame handed on: a clash (R88), a MALFORMED frame to no block, otherwise to the takers. -/
def State.handOn (s : State) (kind : BitVec 3) (b : RxBody) (accepted : Bool) : State :=
  if b.source.toNat = s.ownAddress then s.isolate kind.toNat
  else
    match decodeFrame kind b with
    | none => s
    | some f => if s.mbr.station.takesFrames then s.take b.source.toNat accepted f else s

/-- R72, R78, R81, R88: the arrival of a frame in the station states that count. -/
def State.arriveCounted (s : State) (kind : BitVec 3) (b : RxBody) (slots : Slots) : State :=
  if !checkGood kind b then s.arriveBad (s.slotsDriven kind b).fault slots
  else
    let s1 := s.endFrame.countMalformed (decodeFrame kind b)
    if slots.fault then s1.bump .voidsSeen
    else s1.arriveGood.handOn kind b (!(slots.veto || s.lnk.vetoDriven))

/-- R80, R117, R120: the arrival of a frame in PARKED_LIGHT: only a good, non-void WAKE acts. -/
def State.arriveParked (s : State) (kind : BitVec 3) (b : RxBody) (slots : Slots) : State :=
  if checkGood kind b && !slots.fault && decide (decodeFrame kind b = some .wake) then
    s.endFrame.wakeUp (.wakeFrame b.source.toNat)
  else s.endFrame

/-- R81: the arrival of a frame, at the end of its seventh end bit. Only a link in RECEIVING has one. -/
def State.arrive (s : State) (kind : BitVec 3) (b : RxBody) (slots : Slots) : State :=
  if s.lnk.state ≠ .receiving then s
  else if s.mbr.station = .parkedLight then s.arriveParked kind b slots
  else s.arriveCounted kind b slots

/-! ### Own completions -/

/-- R82, R93, R96, R111: what every non-void own completion does. `paced` is true of a REQUEST whose pacing R98 and R99 update. -/
def State.completeOwn (s : State) (ack paced : Bool) : State :=
  let s1 := s.endFrame.bump .framesSent
  let s2 := s1.setLnk { s1.lnk with txVoid := 0, heard := if ack then .heard else .unheard }
  let s3 := if s2.mbr.station.drives then
      s2.setMbr { s2.mbr with selfSilence := .running (s2.clock + Config.selfSilenceTime) }
    else s2
  s3.setTxq (s3.txq.completed paced)

/-- R37, R140, R142, R144: the demand set from an own REQUEST, limited. -/
def State.limitedDemand (s : State) (e : Entry) (r : Resource) (d : Nat) : Nat :=
  if s.dcc.fan.condition ≠ .running then 0
  else
    match r with
    | .cool => if s.zlp.interlock then 0 else d
    | .heat => if s.zlp.interlock then 0 else d
    | .power => if e.shed then min d (e.floorOr0 .power) else d

/-- R37: an own REQUEST on the self entry. -/
def Entry.withOwnRequest (e : Entry) (r : Resource) (c : ClaimClass) (raise demand : Nat)
    (accepted : Bool) : Entry :=
  { e with committed := if accepted then e.committed.set r (e.committed.get r + raise)
                        else e.committed
           demand := e.demand.set r (some demand)
           lastClass := e.lastClass.set r (some c) }

/-- R98: the step after an own REQUEST. -/
def stepAfter (accepted : Bool) (raise : Nat) : RaiseStep :=
  if accepted then .full else .atMost (max 4 (raise / 2))

/-- R98, R99: the pacing after an own REQUEST. -/
def State.pace (s : State) (r : Resource) (accepted : Bool) (raise : Nat) : State :=
  s.setTxq { s.txq with
    step := s.txq.step.set r (stepAfter accepted raise)
    holdOff := s.txq.holdOff.set r (if accepted then none else s.after Config.holdOffTime)
    spacing := s.txq.spacing.set r (if accepted then s.after Config.spacingTime else none) }

/-- R37: the value of REQUEST_REFUSED. -/
def OwnVerdict.code : OwnVerdict → Nat
  | .passed => 0
  | .notJudged => 7
  | .failed t => t

/-- R37: the record, counter and event of an own REQUEST. -/
def State.recordOutcome (s : State) (r : Resource) (accepted : Bool) : State :=
  if accepted then (s.setOutcome r .accepted).bump .requestsAccepted
  else ((s.setOutcome r .refused).bump .requestsRefused).raise { block := .cjg, slot := 3 }
    .requestRefused none (some r) (some (s.cjg.ownRequest.get r).ownVerdict.code)

/-- R37, R98, R99, R168: an own REQUEST completed in MEMBER. -/
def State.applyOwnRequest (s : State) (r : Resource) (c : ClaimClass) (raise demand : Nat)
    (accepted : Bool) : State :=
  match s.stb.self with
  | none => s
  | some e =>
    let s1 := (s.mapSelf fun x => x.withOwnRequest r c raise (s.limitedDemand e r demand)
      accepted).pace r accepted raise
    if r = .power then s1.selfChanged.shedGuard else s1.selfChanged

/-- R39, R45: a held target at or below which the own draw has come. -/
def State.meetTarget (s : State) (r : Resource) (newDraw : Nat) : State :=
  match s.cjg.releaseTarget.get r with
  | none => s
  | some t => if newDraw ≤ t then s.setTarget r none else s

/-- R39, R45, R168: an own RELEASE completed in MEMBER. -/
def State.applyOwnRelease (s : State) (r : Resource) (newDraw : Nat) : State :=
  let s1 := ((s.mapSelf fun e => e.withRelease r newDraw).meetTarget r newDraw).selfChanged
  if r = .power then s1.shedGuard else s1

/-- R100: the STATE timer started for 2 s. -/
def State.startStateTimer (s : State) : State :=
  s.setTxq { s.txq with stateTimer := s.after Config.stateTime }

end Sys2Proof.Machine
end

