-- ==== Sys2Proof/Machine/Arrivals.lean ====
section
/-! DEFINITION. The arrivals of other stations' frames (R81). Each row gives the kind of the frame, or an operand does. Its check, its slots and its content decide what it is (log entry 18). -/

namespace Sys2Proof.Machine

/-- MALFORMED_ARRIVAL (R72). -/
def execMalformedArrival (kind : BitVec 3) (b : RxBody) (slots : Slots) (s : State) :
    Host.Outcome State Fault Refusal :=
  s.run fun s => s.arrive kind b slots

/-- VOID_ARRIVAL (R78, R81). -/
def execVoidArrival (kind : BitVec 3) (b : RxBody) (slots : Slots) (s : State) :
    Host.Outcome State Fault Refusal :=
  s.run fun s => s.arrive kind b slots

/-- ADDRESS_CLASH (R88). -/
def execAddressClash (kind : BitVec 3) (b : RxBody) (slots : Slots) (s : State) :
    Host.Outcome State Fault Refusal :=
  s.run fun s => s.arrive kind b slots

/-- REQUEST_ARRIVAL (R34 to R36). -/
def execRequestArrival (b : RxBody) (slots : Slots) (s : State) :
    Host.Outcome State Fault Refusal :=
  s.run fun s => s.arrive 4#3 b slots

/-- RELEASE_ARRIVAL (R38). -/
def execReleaseArrival (b : RxBody) (slots : Slots) (s : State) :
    Host.Outcome State Fault Refusal :=
  s.run fun s => s.arrive 3#3 b slots

/-- SUPPLY_ARRIVAL (R50, R55). -/
def execSupplyArrival (b : RxBody) (slots : Slots) (s : State) :
    Host.Outcome State Fault Refusal :=
  s.run fun s => s.arrive 2#3 b slots

/-- SETPOINT_ARRIVAL (R62). -/
def execSetpointArrival (b : RxBody) (slots : Slots) (s : State) :
    Host.Outcome State Fault Refusal :=
  s.run fun s => s.arrive 5#3 b slots

/-- STATE_ARRIVAL (R10, R58, R63). -/
def execStateArrival (b : RxBody) (slots : Slots) (s : State) :
    Host.Outcome State Fault Refusal :=
  s.run fun s => s.arrive 6#3 b slots

/-- JOIN_ARRIVAL (R11, R100). -/
def execJoinArrival (b : RxBody) (slots : Slots) (s : State) :
    Host.Outcome State Fault Refusal :=
  s.run fun s => s.arrive 7#3 b slots

/-- PARK_ARRIVAL (R116). -/
def execParkArrival (b : RxBody) (slots : Slots) (s : State) :
    Host.Outcome State Fault Refusal :=
  s.run fun s => s.arrive 0#3 b slots

/-- WAKE_ARRIVAL (R117, R120). -/
def execWakeArrival (b : RxBody) (slots : Slots) (s : State) :
    Host.Outcome State Fault Refusal :=
  s.run fun s => s.arrive 1#3 b slots

end Sys2Proof.Machine
end

