-- ==== Sys2Proof/Machine/Channels.lean ====
section
/-! DEFINITION. Events of the drive and capture channels: periods and on-times (R146, R147, R151), the damper's steps and end-stop (R153 to R157), tach edges and stalls (R159 to R162). -/

namespace Sys2Proof.Machine

/-! ### Duty channels -/

/-- R146, R147: a period end. -/
def State.periodEnded (s : State) (ch : DutyChannel) : State :=
  s.changeDrives fun d => d.periodEnd ch s.clock

/-- R146, R151: the on-time of the active duty has passed. -/
def State.onTimePassed (s : State) (ch : DutyChannel) : State :=
  s.changeDrives fun d => d.onTimePassed ch s.clock

/-! ### Damper -/

/-- R153 to R157: a drive step completes with the end-stop read at the given level. -/
def State.stepDone (s : State) (endStop : Bool) : State :=
  let r := s.dcc.damper.stepEnd endStop s.travel s.clock
  let s1 := s.changeDamper fun _ => r.1
  if r.2 then s1.raise damperOrigin .damperFault none none (some (s.travel + 10)) else s1

/-- R153, R156: the dead interval ends. -/
def State.deadDone (s : State) : State :=
  s.changeDamper fun m => m.deadEnd s.clock s.damperMoves

/-- R155, R156: the end-stop becomes active. Its level is known while the part is held as well. -/
def State.endStopActive (s : State) : State :=
  let s1 := s.changeDamper fun m => { m with endStop := true }
  if s.held then s1 else s1.changeDamper fun m => m.endStopMet s1.clock

/-! ### Tach and stall -/

/-- R159: the part captures the tach after a configuration read that succeeded. -/
def State.captures (s : State) : Bool := s.cfg.image.isSome

/-- R159: units of 10 µs in clock units. -/
def tachUnit : Nat := 200

/-- R159: the tach period of a time between edges. A time between two units takes either, as the free value says (log entry 6). -/
def tachPeriodOf (elapsed free : Nat) : Nat :=
  max 1 (min 65535 (elapsed / tachUnit + (if elapsed % tachUnit = 0 then 0 else free % 2)))

/-- R159: an edge in the capture. -/
def Blower.edge (b : Blower) (clock free : Nat) : Blower :=
  { b with window := min 255 (b.window + 1)
           period := match b.lastEdge with
                     | none => b.period
                     | some t => some (tachPeriodOf (clock - t) free)
           lastEdge := some clock }

/-- R160: an edge restarts the stall timer while the blower is watched. -/
def Drives.edgeSeen (d : Drives) (clock free : Nat) : Drives :=
  let b := d.fan.edge clock free
  { d with fan := { b with stallTimer := if d.watched then some (clock + Config.stallTime)
                                          else d.fan.stallTimer } }

/-- R159, R160: a tach edge. -/
def State.tach (s : State) : State :=
  if s.captures then
    let s1 := s.drawn.setDcc (s.dcc.edgeSeen s.clock s.free)
    if s.dcc.fan.window = 254 then s1.raise tachOrigin .tachOverrun none none (some 255) else s1
  else s

/-- R161, R162: the blower at a stall. -/
def Blower.stall (b : Blower) (clock : Nat) : Blower :=
  let b1 := { b with stallCount := b.stallCount + 1, stallTimer := none, goodRunTimer := none }
  if b.stallCount + 1 < 3 then
    { b1 with condition := .stalled, restartTimer := some (clock + Config.restartTime) }
  else { b1 with condition := .fault, restartTimer := none, faultLatch := true }

/-- R161, R162: the events of a stall, in the order R162 gives. -/
def State.raiseStall (s : State) : State :=
  let s1 := s.raise blowerOrigin .blowerStall none none (some s.dcc.fan.stallCount)
  if s1.dcc.fan.condition = .fault then s1.raise blowerOrigin .blowerFault none none (some 3)
  else s1

/-- R161, R162: a stall: the blower off, its condition changed and reported. -/
def State.stalled (s : State) : State :=
  match s.dcc.fan.stallTimer with
  | none => s
  | some _ =>
    let s1 := s.changeDrives fun d =>
      let d1 := d.forceOff .blower s.clock
      { d1 with fan := d1.fan.stall s.clock }
    s1.raiseStall.blowerReport

/-- R162: the blower after the restart wait. FAULT stands until it is cleared. -/
def Blower.restarted (b : Blower) : Blower :=
  { b with restartTimer := none
           condition := if b.condition = .stalled then .running else b.condition }

/-- R162: the restart wait ends. -/
def State.restartEnd (s : State) : State :=
  match s.dcc.fan.restartTimer with
  | none => s
  | some _ =>
    (s.changeDrives fun d => { d with fan := d.fan.restarted }).blowerReport

/-- R162: good running forgives earlier stalls. -/
def State.goodRun (s : State) : State :=
  match s.dcc.fan.goodRunTimer with
  | none => s
  | some _ => s.setDcc { s.dcc with fan := { s.dcc.fan with stallCount := 0, goodRunTimer := none } }

/-- PERIOD_END. -/
def execPeriodEnd (ch : DutyChannel) (s : State) : Host.Outcome State Fault Refusal :=
  s.run fun s => s.periodEnded ch

/-- COOL_VALVE_REST_END (R151). -/
def execCoolValveRestEnd (s : State) : Host.Outcome State Fault Refusal :=
  s.run fun s => s.changeDrives Drives.restEnd

/-- ON_TIME_PASSED. -/
def execOnTimePassed (ch : DutyChannel) (s : State) : Host.Outcome State Fault Refusal :=
  s.run fun s => s.onTimePassed ch

/-- STEP_TIMER_EXPIRY. -/
def execStepTimerExpiry (endStop : Bool) (s : State) : Host.Outcome State Fault Refusal :=
  s.run fun s => s.stepDone endStop

/-- DEAD_TIMER_EXPIRY. -/
def execDeadTimerExpiry (s : State) : Host.Outcome State Fault Refusal := s.run State.deadDone

/-- DMPEND_ACTIVE. -/
def execDmpendActive (s : State) : Host.Outcome State Fault Refusal := s.always State.endStopActive

/-- TACH_EDGE. -/
def execTachEdge (s : State) : Host.Outcome State Fault Refusal := s.run State.tach

/-- STALL_TIMER_EXPIRY. -/
def execStallTimerExpiry (s : State) : Host.Outcome State Fault Refusal := s.run State.stalled

/-- RESTART_TIMER_EXPIRY. -/
def execRestartTimerExpiry (s : State) : Host.Outcome State Fault Refusal := s.run State.restartEnd

/-- GOOD_RUN_TIMER_EXPIRY. -/
def execGoodRunTimerExpiry (s : State) : Host.Outcome State Fault Refusal := s.run State.goodRun

end Sys2Proof.Machine
end

