-- ==== Sys2Proof/Machine/Completions.lean ====
section
/-! DEFINITION. The completions of own frames (R37, R39, R82, R96). A completion acts when the frame of its row is on the wire. -/

namespace Sys2Proof.Machine

/-- The own frame being sent. -/
def State.sending (s : State) : Option FrameBody :=
  if s.lnk.state = .transmitting then s.lnk.wire else none

/-- R37: an own REQUEST. -/
def State.requestDone (s : State) (ack veto : Bool) : State :=
  match s.sending with
  | some (.request r c _ raise demand) =>
    let accepted := !(veto || s.lnk.vetoDriven)
    let s1 := (s.completeOwn ack s.isMember).recordOutcome r accepted
    if s1.isMember then s1.applyOwnRequest r c raise demand accepted else s1
  | _ => s

/-- R39: an own RELEASE. -/
def State.releaseDone (s : State) (ack : Bool) : State :=
  match s.sending with
  | some (.release r newDraw) =>
    let s1 := s.completeOwn ack false
    if s1.isMember then s1.applyOwnRelease r newDraw else s1
  | _ => s

/-- R50, R55: an own SUPPLY. -/
def State.supplyDone (s : State) (ack : Bool) : State :=
  match s.sending with
  | some (.supply fallback values) =>
    let s1 := s.completeOwn ack false
    if s1.mbr.station.takesFrames then s1.applySupply s1.ownAddress fallback values else s1
  | _ => s

/-- R62: an own SETPOINT. -/
def State.setpointDone (s : State) (ack : Bool) : State :=
  match s.sending with
  | some (.setpoint value mode epoch origin) =>
    let s1 := s.completeOwn ack false
    if s1.mbr.station.takesFrames then s1.offerSetpoint value mode epoch origin else s1
  | _ => s

/-- R116: an own PARK. -/
def State.parkDone (s : State) (ack : Bool) : State :=
  match s.sending with
  | some (.park depth wakeAfter) =>
    let s1 := s.completeOwn ack false
    if s1.mbr.station.takesFrames then s1.parkStation depth wakeAfter s1.ownAddress else s1
  | _ => s

/-- R109: the census timer at an own JOIN in JOINING. -/
def State.startCensus (s : State) : State :=
  if s.mbr.station = .joining then
    s.setMbr { s.mbr with censusTimer := s.after Config.censusTime }
  else s

/-- R96, R100, R109: an own JOIN. The STATE timer is started when it is stopped and the completion finds its intent. -/
def State.joinDone (s : State) (ack : Bool) : State :=
  match s.sending with
  | some (.join _) =>
    let s1 := (s.completeOwn ack false).startCensus
    if s.txq.onWire.isSome && s1.txq.stateTimer.isNone then s1.startStateTimer else s1
  | _ => s

/-- R96, R100: an own STATE. The STATE timer is restarted when the completion finds its intent. -/
def State.stateDone (s : State) (ack : Bool) : State :=
  match s.sending with
  | some (.state _) =>
    let s1 := s.completeOwn ack false
    if s.txq.onWire.isSome then s1.startStateTimer else s1
  | _ => s

/-- R82: an own WAKE. -/
def State.wakeDone (s : State) (ack : Bool) : State :=
  match s.sending with
  | some .wake => s.completeOwn ack false
  | _ => s

/-- R82, R83: a void own frame. -/
def State.voidDone (s : State) : State :=
  match s.sending with
  | some _ => ((s.endFrame.setTxq s.txq.returned).bump .voidsSeen).countTxVoid
  | none => s

/-- OWN_REQUEST_COMPLETION. -/
def execOwnRequestCompletion (ack veto : Bool) (s : State) : Host.Outcome State Fault Refusal :=
  s.run fun s => s.requestDone ack veto

/-- OWN_RELEASE_COMPLETION. -/
def execOwnReleaseCompletion (ack : Bool) (s : State) : Host.Outcome State Fault Refusal :=
  s.run fun s => s.releaseDone ack

/-- OWN_SUPPLY_COMPLETION. -/
def execOwnSupplyCompletion (ack : Bool) (s : State) : Host.Outcome State Fault Refusal :=
  s.run fun s => s.supplyDone ack

/-- OWN_SETPOINT_COMPLETION. -/
def execOwnSetpointCompletion (ack : Bool) (s : State) : Host.Outcome State Fault Refusal :=
  s.run fun s => s.setpointDone ack

/-- OWN_PARK_COMPLETION. -/
def execOwnParkCompletion (ack : Bool) (s : State) : Host.Outcome State Fault Refusal :=
  s.run fun s => s.parkDone ack

/-- OWN_JOIN_COMPLETION. -/
def execOwnJoinCompletion (ack : Bool) (s : State) : Host.Outcome State Fault Refusal :=
  s.run fun s => s.joinDone ack

/-- OWN_STATE_COMPLETION. -/
def execOwnStateCompletion (ack : Bool) (s : State) : Host.Outcome State Fault Refusal :=
  s.run fun s => s.stateDone ack

/-- OWN_WAKE_COMPLETION. -/
def execOwnWakeCompletion (ack : Bool) (s : State) : Host.Outcome State Fault Refusal :=
  s.run fun s => s.wakeDone ack

/-- VOID_COMPLETION. -/
def execVoidCompletion (s : State) : Host.Outcome State Fault Refusal := s.run State.voidDone

end Sys2Proof.Machine
end

