-- ==== Sys2Proof/Machine/ConfigRead.lean ====
section
/-! DEFINITION. The one read of the configuration block: ready poll, transfer, checks and hand-on (R175 to R179). -/

namespace Sys2Proof.Machine

/-- R175: the bytes the reader sends in a selection of the memory: the status command 5 in each poll of the ready poll; the read command 3 and a two-byte address of 0 in the transfer. -/
def ReadPhase.sends : ReadPhase → List Byte
  | .none => []
  | .readyPoll => [5#8]
  | .transfer => [3#8, 0#8, 0#8]

/-- R175, 10.5: whether the memory is selected between two steps. A poll selects it and deselects it within its own step; a transfer holds it selected until its end or its failure (log entry 39). -/
def ReadPhase.selects : ReadPhase → Bool
  | .none => false
  | .readyPoll => false
  | .transfer => true

/-- R175, R178: a read that fails. -/
def State.failRead (s : State) (reason : FaultReason) (offset : Nat) : State :=
  (s.setCfg { s.cfg with image := none, phase := .none, readTimer := none, reason := reason
                         offset := offset }).setStation .configFault

/-- R179: a read whose block is good. -/
def State.acceptBlock (s : State) (img : Image) : State :=
  ((s.takeImage img).deferredWarn).enterSettling

/-- R175: a status byte. -/
def State.pollStatus (s : State) (status : Byte) : State :=
  if s.cfg.phase = .readyPoll ∧ status.getLsbD 0 = false then
    s.setCfg { s.cfg with phase := .transfer }
  else s

/-- R176, R177: the checks at the last bit of byte 63. -/
def State.checkBlock (s : State) (block : List Byte) : State :=
  if !blockCheckGood block then s.failRead .check 0
  else if (byteAt block 0).toNat ≠ 1 then s.failRead .version 0
  else
    match firstBadField block with
    | some offset => s.failRead .range offset
    | none => s.acceptBlock (imageOf block)

/-- R175, R176: the end of the transfer of 64 bytes. -/
def State.readEnd (s : State) (block : List Byte) : State :=
  if s.cfg.phase = .transfer ∧ block.length = 64 then s.checkBlock block else s

/-- R175: 50 ms have passed without the last byte. -/
def State.readTimeout (s : State) : State :=
  match s.cfg.readTimer with
  | none => s
  | some _ => s.failRead .timeout 0

/-- READY_POLL_STATUS. -/
def execReadyPollStatus (status : Byte) (s : State) : Host.Outcome State Fault Refusal :=
  s.run fun s => s.pollStatus status

/-- CONFIG_READ_END. -/
def execConfigReadEnd (block : List Byte) (s : State) : Host.Outcome State Fault Refusal :=
  s.run fun s => s.readEnd block

/-- CONFIG_READ_TIMEOUT. -/
def execConfigReadTimeout (s : State) : Host.Outcome State Fault Refusal :=
  s.run State.readTimeout

end Sys2Proof.Machine
end

