-- ==== Sys2Proof/Machine/LinkLine.lean ====
section
/-! DEFINITION. Line events below the frame's end: idle, start bits, arbitration, bit errors, framing failures and the judgement of a REQUEST (R66, R73 to R76, R26, R28). -/

namespace Sys2Proof.Machine

/-- R66, R107: the eleventh recessive bit; a fault flag then has ended too (log entry 10). -/
def State.lineIdle (s : State) : State :=
  if s.lnk.state = .seekingIdle ∨ s.lnk.state = .flag then
    let s1 := s.setLnk { s.lnk with state := .idle, recessive := 11, flagTimer := none }
    if s1.mbr.station = .settling then
      s1.setMbr { s1.mbr with settleTimer := s1.after Config.settleTime }
    else s1
  else s

/-- R66, R107: another station's start bit read in IDLE. -/
def State.startBitRead (s : State) : State :=
  if s.lnk.state = .idle then
    (s.setLnk { s.lnk with state := .receiving, endRun := 7
                           vetoDriven := false, drivesFrom := none }).setMbr
      { s.mbr with settleTimer := none }
  else s

/-- R66: a dominant bit in SEEKING_IDLE, or as bit 0 to 6 of the end field of the frame on the line (log entry 11). -/
def State.dominantBit (s : State) (endBit : Option (Fin 7)) : State :=
  match endBit with
  | none => if s.lnk.state = .seekingIdle then s.setLnk { s.lnk with recessive := 0 } else s
  | some k =>
    if s.lnk.state = .transmitting ∨ s.lnk.state = .receiving then
      s.setLnk { s.lnk with endRun := 6 - k.val }
    else s

/-- R73, R94: a transmission start, for which the link must be IDLE and the station state permit it. An idle drops at most the nine intents and what a drop asks for. -/
def State.transmit (s : State) : State :=
  if s.lnk.state = .idle ∧ s.mbr.station.drives = true then s.offer 12 else s

/-- R74, R83: arbitration lost. -/
def State.loseArbitration (s : State) : State :=
  if s.lnk.state = .transmitting then
    ((s.setLnk { s.lnk with state := .receiving, wire := none, vetoDriven := false }).setTxq
      s.txq.returned).bump .arbitrationLosses
  else s

/-- R75: a bit error. -/
def State.bitError (s : State) : State :=
  if s.lnk.state = .transmitting then
    ((s.breakFrame.setTxq s.txq.returned).bump .voidsSeen).countTxVoid
  else s

/-- R76: whether a framing failure is this station's own detection and not another's flag. -/
def ownDetection : FramingCause → Bool
  | .stuffRecessive => true
  | .stuffDominant => false
  | .lengthAbove40 => true

/-- R76: a framing failure. -/
def State.framingFailure (s : State) (cause : FramingCause) : State :=
  if s.lnk.state = .receiving then
    let s1 := s.breakFrame.bump .voidsSeen
    if ownDetection cause then (s1.bump .checkFailures).countRxFault else s1
  else s

/-- The claim a REQUEST frame from an address makes. -/
def claimOf (sender : Nat) : FrameBody → Option Claim
  | .request r c before raise _ =>
    some { sender := sender, resource := r, claimClass := c, drawBefore := before, raise := raise }
  | .park _ _ => none
  | .wake => none
  | .supply _ _ => none
  | .release _ _ => none
  | .setpoint _ _ _ _ => none
  | .state _ => none
  | .join _ => none

/-- R26, R28: the own REQUEST on the wire judged in MEMBER. -/
def State.judgeOwn (s : State) : State :=
  if s.lnk.state = .transmitting ∧ s.isMember = true then
    match s.lnk.wire.bind (claimOf s.ownAddress) with
    | none => s
    | some c => (s.driveVerdict c).setVerdict c.resource (verdictOf (s.judge c))
  else s

/-- R26, R27: the claim in a heard REQUEST that is judged: its check good and not MALFORMED. -/
def heardClaim (b : RxBody) : Option Claim :=
  if checkGood 4#3 b then (decodeFrame 4#3 b).bind (claimOf b.source.toNat) else none

/-- R26, R28: a heard REQUEST judged in MEMBER. -/
def State.judgeHeard (s : State) (b : RxBody) : State :=
  if s.lnk.state = .receiving ∧ s.isMember = true then
    match heardClaim b with
    | none => s
    | some c => s.driveVerdict c
  else s

/-- LINK_IDLE. -/
def execLinkIdle (s : State) : Host.Outcome State Fault Refusal := s.run State.lineIdle

/-- START_BIT_READ. -/
def execStartBitRead (s : State) : Host.Outcome State Fault Refusal := s.run State.startBitRead

/-- DOMINANT_BIT_IN_SEEKING_IDLE. -/
def execDominantBitInSeekingIdle (endBit : Option (Fin 7)) (s : State) :
    Host.Outcome State Fault Refusal :=
  s.run fun s => s.dominantBit endBit

/-- TRANSMISSION_START. -/
def execTransmissionStart (s : State) : Host.Outcome State Fault Refusal := s.run State.transmit

/-- ARBITRATION_LOST. -/
def execArbitrationLost (s : State) : Host.Outcome State Fault Refusal :=
  s.run State.loseArbitration

/-- BIT_ERROR. -/
def execBitError (s : State) : Host.Outcome State Fault Refusal := s.run State.bitError

/-- FRAMING_FAILURE. -/
def execFramingFailure (cause : FramingCause) (s : State) : Host.Outcome State Fault Refusal :=
  s.run fun s => s.framingFailure cause

/-- REQUEST_JUDGED: of the own frame on the wire, or of a heard one. -/
def execRequestJudged (heard : Option RxBody) (s : State) : Host.Outcome State Fault Refusal :=
  s.run fun s =>
    match heard with
    | none => s.judgeOwn
    | some b => s.judgeHeard b

end Sys2Proof.Machine
end

