-- ==== Sys2Proof/Machine/MemberTimers.lean ====
section
/-! DEFINITION. Expiries of the Membership Controller's timers, the quiet timer and the wake pin (R87, R108, R110, R112, R119, R121). -/

namespace Sys2Proof.Machine

/-- R107, R108: the settle timer expires. -/
def State.settled (s : State) : State :=
  match s.mbr.settleTimer with
  | none => s
  | some _ =>
    if s.mbr.station = .settling then s.enterJoining
    else s.setMbr { s.mbr with settleTimer := none }

/-- R110: the census timer expires. -/
def State.censusEnd (s : State) : State :=
  match s.mbr.censusTimer with
  | none => s
  | some _ =>
    if s.mbr.station = .joining then s.enterMember
    else s.setMbr { s.mbr with censusTimer := none }

/-- R111, R112: the self-silence timer expires. -/
def State.silenceEnd (s : State) : State :=
  match s.mbr.selfSilence with
  | .stopped => s
  | .expired => s
  | .running _ =>
    let s1 := s.setMbr { s.mbr with selfSilence := .expired }
    if s1.isMember then s1.selfLapse else s1

/-- R80, R87: the link at the end of LINK_QUIET: within a frame being received, the JOINING row holds from here on. -/
def Link.endQuiet (l : Link) (clock : Nat) : Link :=
  { l with quietTimer := none
           drivesFrom := if l.state = .receiving then some clock else l.drivesFrom }

/-- R87, R108: the quiet timer expires. -/
def State.quietEnd (s : State) : State :=
  match s.lnk.quietTimer with
  | none => s
  | some _ =>
    if s.mbr.station = .linkQuiet then (s.setLnk (s.lnk.endQuiet s.clock)).enterJoining
    else s.setLnk { s.lnk with quietTimer := none }

/-- R119: the wake timer expires. -/
def State.wakeEnd (s : State) : State :=
  match s.mbr.wakeTimer with
  | none => s
  | some _ =>
    if s.mbr.station.parked then s.wakeAndCall .timer
    else s.setMbr { s.mbr with wakeTimer := none }

/-- R122, R123: the reading of a return-air count. -/
def State.readReturn (s : State) (count : BitVec 12) : Reading :=
  match s.cfg.image with
  | some img => convert img.returnCal count
  | none => .absent

/-- R121: a valid reading below 5.0 °C. -/
def Reading.freezing : Reading → Bool
  | .valid t => decide (t < 50)
  | .absent => false
  | .faulted => false

/-- R121: the freeze sample. -/
def State.freezeSample (s : State) (count : BitVec 12) : State :=
  match s.mbr.sampleTimer with
  | none => s
  | some _ =>
    if s.mbr.station = .parkedLight then
      let s1 := s.setZlp { s.zlp with zone := s.readReturn count }
      if s1.zlp.zone.freezing then s1.wakeFrozen
      else s1.setMbr { s1.mbr with sampleTimer := s1.after Config.sampleTime }
    else s.setMbr { s.mbr with sampleTimer := none }

/-- R119: the wake pin becomes active. -/
def State.wakePin (s : State) : State :=
  if s.mbr.station.parked then s.wakeAndCall .pin else s

/-- SETTLE_TIMER_EXPIRY. -/
def execSettleTimerExpiry (s : State) : Host.Outcome State Fault Refusal := s.run State.settled

/-- CENSUS_TIMER_EXPIRY. -/
def execCensusTimerExpiry (s : State) : Host.Outcome State Fault Refusal := s.run State.censusEnd

/-- SELF_SILENCE_EXPIRY. -/
def execSelfSilenceExpiry (s : State) : Host.Outcome State Fault Refusal := s.run State.silenceEnd

/-- QUIET_TIMER_EXPIRY. -/
def execQuietTimerExpiry (s : State) : Host.Outcome State Fault Refusal := s.run State.quietEnd

/-- WAKE_TIMER_EXPIRY. -/
def execWakeTimerExpiry (s : State) : Host.Outcome State Fault Refusal := s.run State.wakeEnd

/-- SAMPLE_TIMER_EXPIRY. -/
def execSampleTimerExpiry (count : BitVec 12) (s : State) : Host.Outcome State Fault Refusal :=
  s.run fun s => s.freezeSample count

/-- WAKEIN_ACTIVE. -/
def execWakeinActive (s : State) : Host.Outcome State Fault Refusal := s.run State.wakePin

end Sys2Proof.Machine
end

