-- ==== Sys2Proof/Machine/RecordTimers.lean ====
section
/-! DEFINITION. Expiries of the Share Table's, the records' and the queue's timers (R13, R14, R53, R99, R100). An expiry acts while its timer runs. -/

namespace Sys2Proof.Machine

/-- R14: an entry with its outdoor reading aged. -/
def Entry.outdoorAged (e : Entry) : Entry := { e with outdoor := e.outdoor.map .aged }

/-- R14: the table after an age tick whose timer is restarted. -/
def ShareTable.ticked (t : ShareTable) (timer : Timer) : ShareTable :=
  { t with self := t.self.map Entry.outdoorAged, order := t.order.filterMap Entry.ticked
           ageTimer := timer }

/-- R14 to R16: an age tick and its lapses. The notices of R19 follow once, after the last lapse of the tick (log entry 40). -/
def State.ageTick (s : State) : State :=
  match s.stb.ageTimer with
  | none => s
  | some _ =>
    let lapsed := (s.stb.order.filter Entry.lapses).map (·.address)
    let s1 := s.setStb (s.stb.ticked (s.after Config.ageTick))
    (lapsed.foldl State.raiseLapsed s1).tableChanged

/-- R13: the untracked episode ends. -/
def State.untrackedEnd (s : State) : State :=
  match s.stb.untrackedTimer with
  | none => s
  | some _ => s.setStb { s.stb with untracked := false, untrackedTimer := none }

/-- R52, R53: a supply timer expires. -/
def State.supplyExpired (s : State) (r : Resource) : State :=
  match (s.csr.capacity.get r).timer with
  | .stopped => s
  | .expired => s
  | .running _ =>
    let c := s.csr.capacity.get r
    let s1 := s.setCsr { s.csr with capacity := s.csr.capacity.set r { c with timer := .expired } }
    if s1.isMember && decide (c.state = .fresh) then s1.ask .supplyLapse else s1

/-- R100: the STATE timer expires. While a STATE is on the wire it asks for nothing. -/
def State.stateExpired (s : State) : State :=
  match s.txq.stateTimer with
  | none => s
  | some _ =>
    let s1 := s.setTxq { s.txq with stateTimer := none }
    if s1.mbr.station.drives && decide (s1.txq.onWire ≠ some .state) then s1.ask .state else s1

/-- R99: a refusal hold-off ends. -/
def State.holdOffEnd (s : State) (r : Resource) : State :=
  s.setTxq { s.txq with holdOff := s.txq.holdOff.set r none }

/-- R99: a spacing ends. -/
def State.spacingEnd (s : State) (r : Resource) : State :=
  s.setTxq { s.txq with spacing := s.txq.spacing.set r none }

/-- AGE_TICK_EXPIRY. -/
def execAgeTickExpiry (s : State) : Host.Outcome State Fault Refusal := s.run State.ageTick

/-- UNTRACKED_TIMER_EXPIRY. -/
def execUntrackedTimerExpiry (s : State) : Host.Outcome State Fault Refusal :=
  s.run State.untrackedEnd

/-- SUPPLY_TIMER_EXPIRY. -/
def execSupplyTimerExpiry (r : Resource) (s : State) : Host.Outcome State Fault Refusal :=
  s.run fun s => s.supplyExpired r

/-- STATE_TIMER_EXPIRY. -/
def execStateTimerExpiry (s : State) : Host.Outcome State Fault Refusal := s.run State.stateExpired

/-- REFUSAL_HOLD_OFF_EXPIRY. -/
def execRefusalHoldOffExpiry (r : Resource) (s : State) : Host.Outcome State Fault Refusal :=
  s.run fun s => s.holdOffEnd r

/-- SPACING_EXPIRY. -/
def execSpacingExpiry (r : Resource) (s : State) : Host.Outcome State Fault Refusal :=
  s.run fun s => s.spacingEnd r

end Sys2Proof.Machine
end

