-- ==== Sys2Proof/Machine/Restart.lean ====
section
/-! DEFINITION. Restarts and the supply: VLOG, RESETN, supply samples and the recovery timer (R166 to R174). -/

namespace Sys2Proof.Machine

/-- R171: every block at its content after any restart. The Supply Monitor, the outside levels, the queue of commands and the count of free values stand. -/
def State.restartBlocks (s : State) : State :=
  { stb := .reset, cjg := .reset, csr := .reset, lnk := .reset, txq := .reset, mbr := .reset
    zlp := .reset s.zlp.doorActive, dcc := .reset s.dcc.damper.endStop
    sup := s.sup, cfg := .reset, svc := .reset, clock := s.clock, freeCount := s.freeCount
    raised := [], pending := s.pending }

/-- R170: a holding condition begins: the hold begins where none stood, and the condition is noted. -/
def State.hold (s : State) (u : Supply) : State :=
  if s.held then s.setSup u else (s.setSup { u with recovery := none }).restartBlocks

/-- R170, R172: the kind of the restart from the hold record. -/
def Holds.kind (h : Holds) : RestartCause :=
  if h.vlog then .powerOn else if h.cut then .supplyCut else .pin

/-- R172: the supply-cut count at a release. -/
def countAfter (kind : RestartCause) (count : Nat) : Nat :=
  match kind with
  | .powerOn => 0
  | .supplyCut => min 255 (count + 1)
  | .pin => count
  | .none => count

/-- R171, R172: the Supply Monitor at a release. -/
def Supply.release (u : Supply) : Supply :=
  { u with level := .normal, recovery := none, cause := u.noted.kind
           cutCount := countAfter u.noted.kind u.cutCount, noted := .clear }

/-- R171, R175: the release of a restart: every block starts, the time base is 0 and the read begins. -/
def State.releaseHold (s : State) : State :=
  ((((s.setSup s.sup.release).restartBlocks).setClock 0).setCfg .begun)

/-- R170: a holding condition ended; the hold is released when nothing holds the part any more. -/
def State.unhold (s : State) (u : Supply) : State :=
  if u.holds then s.setSup u else (s.setSup u).releaseHold

/-- R170: VLOG below its range clears what VLOG keeps: the sample, the cause record and a standing cut (log entry 32). -/
def Supply.vlogLost (u : Supply) : Supply :=
  { u with sample := none, cause := .none, cutCount := 0
           standing := { u.standing with vlog := true, cut := false }
           noted := { u.noted with vlog := true }, awaiting := false }

/-- R170. -/
def State.vlogFall (s : State) : State := if s.sup.standing.vlog then s else s.hold s.sup.vlogLost

/-- R170: VLOG in its range again. The first sample settles whether a cut begins within the same hold, so the hold lasts until it (log entry 9). -/
def State.vlogRise (s : State) : State :=
  if s.sup.standing.vlog then
    s.setSup { s.sup with standing := { s.sup.standing with vlog := false }, awaiting := true }
  else s

/-- R170. -/
def State.resetnLow (s : State) : State :=
  if s.sup.standing.pin then s
  else s.hold { s.sup with standing := { s.sup.standing with pin := true }
                           noted := { s.sup.noted with pin := true } }

/-- R170, R171. -/
def State.resetnHigh (s : State) : State :=
  if s.sup.standing.pin then
    s.unhold { s.sup with standing := { s.sup.standing with pin := false } }
  else s

/-- R166: a sample taken. -/
def Supply.sampled (u : Supply) (sample : Nat) : Supply :=
  { u with sample := some sample, awaiting := false }

/-- R169, R170: a sample below 17.0 V begins the cut, or keeps it. -/
def Supply.cutBegun (u : Supply) : Supply :=
  { u with level := .cut, recovery := none
           standing := { u.standing with cut := true }
           noted := { u.noted with cut := true } }

/-- R167, R168, R174: NORMAL to WARN. -/
def State.warn (s : State) (sample : Nat) : State :=
  let s1 := s.setSup { s.sup with level := .warn }
  let s2 := if s1.cfg.image.isSome then s1.raise supOrigin .supplyWarn none none (some sample)
    else s1
  s2.setShed true

/-- R167: a sample in WARN at the recovery timer. -/
def State.recoverySample (s : State) (sample : Nat) : State :=
  if sample < Config.warnRecovery then s.setSup { s.sup with recovery := none }
  else if s.sup.recovery.isSome then s
  else s.setSup { s.sup with recovery := s.after Config.recoveryTime }

/-- R167: a sample of 17.0 V or more while the part runs. -/
def State.levelSample (s : State) (sample : Nat) : State :=
  match s.sup.level with
  | .normal => if sample < Config.warnEntry then s.warn sample else s
  | .warn => s.recoverySample sample
  | .cut => s

/-- R169, R170: what a sample of 17.0 V or more leaves standing: from 18.5 V on no cut. -/
def Supply.cutEnded (u : Supply) (sample : Nat) : Supply :=
  if Config.cutRelease ≤ sample then { u with standing := { u.standing with cut := false } } else u

/-- R166: a supply sample, clamped to 36.0 V. No sample is taken while VLOG is below its range. -/
def State.takeSupplySample (s : State) (value : Nat) : State :=
  if s.sup.standing.vlog then s
  else
    let sample := min 360 value
    let u := s.sup.sampled sample
    if sample < Config.cutEntry then s.hold u.cutBegun
    else if s.held then s.unhold (u.cutEnded sample)
    else (s.setSup u).levelSample sample

/-- R167, R168, R174: the recovery timer expires. -/
def State.recover (s : State) : State :=
  match s.sup.recovery with
  | none => s
  | some _ =>
    let s1 := s.setSup { s.sup with recovery := none }
    if s1.sup.level = .warn then
      let s2 := s1.setSup { s1.sup with level := .normal }
      let s3 := if s2.cfg.image.isSome then s2.raise supOrigin .supplyOk none none s2.sup.sample
        else s2
      s3.setShed false
    else s1

/-- VLOG_FALL. -/
def execVlogFall (s : State) : Host.Outcome State Fault Refusal := s.always State.vlogFall

/-- VLOG_RISE. -/
def execVlogRise (s : State) : Host.Outcome State Fault Refusal := s.always State.vlogRise

/-- RESETN_LOW. -/
def execResetnLow (s : State) : Host.Outcome State Fault Refusal := s.always State.resetnLow

/-- RESETN_HIGH. -/
def execResetnHigh (s : State) : Host.Outcome State Fault Refusal := s.always State.resetnHigh

/-- SUPPLY_SAMPLE. -/
def execSupplySample (value : Nat) (s : State) : Host.Outcome State Fault Refusal :=
  s.always fun s => s.takeSupplySample value

/-- RECOVERY_TIMER_EXPIRY. -/
def execRecoveryTimerExpiry (s : State) : Host.Outcome State Fault Refusal := s.run State.recover

end Sys2Proof.Machine
end

