-- ==== Sys2Proof/Machine/Answers.lean ====
section
/-! DEFINITION. The bytes of an answer's data (R181): the fields of each answer in the order of the rules (R184, R185, R190), their values in bytes more significant first, and what the manual leaves open of them (log entry 17). -/

namespace Sys2Proof.Machine

/-! ### The fields of an answer -/

/-- What a field of an answer holds, by the rule that names it (R184, R185, R188, 1.2). -/
inductive FieldKind where
  | stationState | parkDepth | wakeSource | address | faultReason | faultOffset | supplyLevel
  | supplySample | heard | flag | resource | testNumber | zoneMode | temperature | duty | homed
  | position | motion | condition | count | period | age | weight | draw | floor | claimClass
  | capacityState | setpoint | setMode | epoch | statistic | eventKind | time | eventValue
deriving DecidableEq, Repr

/-- One more than the greatest value of a kind, by its range in the manual; a signed temperature takes 65536 values. -/
def FieldKind.span : FieldKind → Nat
  | .stationState => 9
  | .parkDepth => 3
  | .wakeSource => 5
  | .address => 64
  | .faultReason => 5
  | .faultOffset => 62
  | .supplyLevel => 3
  | .supplySample => 361
  | .heard => 3
  | .flag => 2
  | .resource => 3
  | .testNumber => 7
  | .zoneMode => 4
  | .temperature => 65536
  | .duty => 1001
  | .homed => 3
  | .position => 251
  | .motion => 4
  | .condition => 3
  | .count => 256
  | .period => 65536
  | .age => 4
  | .weight => 16
  | .draw => 1024
  | .floor => 256
  | .claimClass => 3
  | .capacityState => 3
  | .setpoint => 301
  | .setMode => 5
  | .epoch => 65536
  | .statistic => 16777216
  | .eventKind => 22
  | .time => 4294967296
  | .eventValue => 65536

/-- The kinds whose values are names to which the manual gives no code in an answer. -/
def FieldKind.named : FieldKind → Bool
  | .stationState | .parkDepth | .wakeSource | .faultReason | .supplyLevel | .heard | .homed
  | .motion | .condition => true
  | .address | .faultOffset | .supplySample | .flag | .resource | .testNumber | .zoneMode
  | .temperature | .duty | .position | .count | .period | .age | .weight | .draw | .floor
  | .claimClass | .capacityState | .setpoint | .setMode | .epoch | .statistic | .eventKind
  | .time | .eventValue => false

/-- A field with its value; of a named kind, the place of the name in the manual's list. An optional field is marked present or absent (R184, R185). -/
inductive AnswerField where
  | always (kind : FieldKind) (value : Int)
  | optional (kind : FieldKind) (value : Option Int)
deriving DecidableEq, Repr

/-- A field that always has a value of 0 or more. -/
def fieldOf (k : FieldKind) (n : Nat) : AnswerField := .always k n

/-- A field that may be absent. -/
def maybeField (k : FieldKind) (n : Option Nat) : AnswerField := .optional k (n.map Int.ofNat)

/-- A flag. -/
def flagField (b : Bool) : AnswerField := fieldOf .flag b.toNat

/-- A temperature that may be absent. -/
def tempField (t : Option Int) : AnswerField := .optional .temperature t

/-! ### Names in the order of the manual's lists -/

/-- 6.1. -/
def Station.place : Station → Nat
  | .configRead => 0
  | .configFault => 1
  | .settling => 2
  | .joining => 3
  | .member => 4
  | .linkQuiet => 5
  | .isolated => 6
  | .parkedLight => 7
  | .parkedDeep => 8

/-- 6.1: NONE, LIGHT, DEEP. -/
def parkPlace : Option ParkDepth → Nat
  | none => 0
  | some .light => 1
  | some .deep => 2

/-- R178. -/
def FaultReason.place : FaultReason → Nat
  | .none => 0
  | .timeout => 1
  | .check => 2
  | .version => 3
  | .range => 4

/-- 9.1. -/
def SupplyLevel.place : SupplyLevel → Nat
  | .normal => 0
  | .warn => 1
  | .cut => 2

/-- R82. -/
def Heard.place : Heard → Nat
  | .none => 0
  | .heard => 1
  | .unheard => 2

/-- 8.1. -/
def Homed.place : Homed → Nat
  | .unhomed => 0
  | .homing => 1
  | .homed => 2

/-- 8.1. -/
def Motion.place : Motion → Nat
  | .idle => 0
  | .opening => 1
  | .closing => 2
  | .dead => 3

/-- 8.1. -/
def BlowerCondition.place : BlowerCondition → Nat
  | .running => 0
  | .stalled => 1
  | .fault => 2

/-! ### The fields of each answer -/

/-- A value for each resource, in the order COOL, HEAT, POWER (1.2). -/
def perResource (f : Resource → List AnswerField) : List AnswerField := f .cool ++ f .heat ++ f .power

/-- R184: the fields of the STATUS answer, in the order of its table. -/
def StatusData.fields (d : StatusData) : List AnswerField :=
  [fieldOf .stationState d.station.place, fieldOf .parkDepth (parkPlace d.parkDepth),
    fieldOf .wakeSource d.lastWake.value, maybeField .address d.lastWake.peer,
    fieldOf .faultReason d.faultReason.place, fieldOf .faultOffset d.faultOffset,
    fieldOf .supplyLevel d.supplyLevel.place, maybeField .supplySample d.supplySample,
    fieldOf .heard d.heard.place, flagField d.untracked] ++
  (perResource fun r => [flagField (d.overdraw.get r)]) ++
  [maybeField .resource (d.lastVeto.map fun v => resourceCode v.resource),
    maybeField .address (d.lastVeto.map (·.sender)),
    maybeField .testNumber (d.lastVeto.map (·.test)),
    maybeField .zoneMode (d.zoneMode.map ZoneMode.code),
    tempField d.zone.temp, flagField d.zoneFault, flagField d.dischargeFault,
    maybeField .flag (d.outdoorFault.map Bool.toNat), tempField d.target,
    fieldOf .duty d.blowerDuty, fieldOf .duty d.heatDuty, fieldOf .duty d.coolDuty,
    fieldOf .homed d.homed.place, maybeField .position d.position,
    fieldOf .position d.damperTarget, fieldOf .motion d.motion.place,
    fieldOf .condition d.condition.place, fieldOf .count d.stallCount, flagField d.blowerLatch,
    flagField d.damperLatch, fieldOf .count d.lastWindow, maybeField .period d.tachPeriod,
    fieldOf .count d.eventsHeld, fieldOf .count d.lost]

/-- R185, 1.2: the fields of an entry. -/
def Entry.fields (e : Entry) : List AnswerField :=
  [fieldOf .address e.address, flagField e.pinned, flagField e.present, fieldOf .age e.age,
    maybeField .weight e.weight] ++
  (perResource fun r => [fieldOf .draw (e.committed.get r)]) ++
  (perResource fun r => [maybeField .floor (e.floor.get r)]) ++
  (perResource fun r => [maybeField .draw (e.demand.get r)]) ++
  (perResource fun r => [maybeField .claimClass ((e.lastClass.get r).map ClaimClass.code)]) ++
  [tempField e.zoneTemp, tempField (e.outdoor.map (·.temp)),
    maybeField .count (e.outdoor.map (·.age)), maybeField .zoneMode (e.mode.map ZoneMode.code),
    flagField e.shed]

/-- R185: the fields of a capacity record. -/
def CapacityData.fields (c : CapacityData) : List AnswerField :=
  [fieldOf .draw c.value, fieldOf .address c.source, fieldOf .capacityState c.state.code]

/-- R185: the fields of the coach setpoint record, absent while it has no content. -/
def setpointFields (x : Option SetpointRecord) : List AnswerField :=
  [maybeField .setpoint (x.map (·.value)), maybeField .setMode (x.map fun p => p.mode.code),
    maybeField .epoch (x.map (·.epoch)), maybeField .address (x.map (·.origin))]

/-- R188: the fields of an event record. -/
def EventRecord.fields (e : EventRecord) : List AnswerField :=
  [fieldOf .eventKind e.kind.code, fieldOf .time e.time, maybeField .address e.peer,
    maybeField .resource (e.resource.map resourceCode), maybeField .eventValue e.value]

/-- R89, R185: a statistics counter, its count then its overflow flag. -/
def Counter.fields (c : Counter) : List AnswerField :=
  [fieldOf .statistic c.count, flagField c.overflow]

/-- R185: the ten counters in the order of 4.9. -/
def Counters.fields (c : Counters) : List AnswerField :=
  c.framesSent.fields ++ c.framesGood.fields ++ c.checkFailures.fields ++ c.voidsSeen.fields ++
  c.arbitrationLosses.fields ++ c.vetoesDriven.fields ++ c.requestsAccepted.fields ++
  c.requestsRefused.fields ++ c.malformed.fields ++ c.peerLapses.fields

/-- R184, R185, R190, R173: the fields of an answer's data. An EVENTS answer carries at most four records. -/
def AnswerData.fields : AnswerData → List AnswerField
  | .none => []
  | .status d => d.fields
  | .entry n e => fieldOf .count n :: (e.map Entry.fields).getD []
  | .capacity c => perResource fun r => (c.get r).fields
  | .setpoint x => setpointFields x
  | .events n lost records =>
    fieldOf .count n :: fieldOf .count lost :: (records.take 4).flatMap EventRecord.fields
  | .counters c => c.fields
  | .cause _ _ => []

/-! ### Bytes -/

/-- R181: a value in `w` bytes, more significant first; a signed one in two's complement. -/
def beBytes : Nat → Int → List Byte
  | 0, _ => []
  | w + 1, v => BitVec.ofInt 8 (v / 256 ^ w) :: beBytes w v

/-- What the manual leaves open of an answer's bytes: how many bytes each kind of value takes, the codes of the named kinds, and the marks of optional fields. -/
structure LayoutChoice where
  width : FieldKind → Nat
  code : FieldKind → Nat → Nat
  present : FieldKind → List Byte
  absent : FieldKind → List Byte

/-- The bytes of a value of a kind. -/
def LayoutChoice.valueBytes (l : LayoutChoice) (k : FieldKind) (v : Int) : List Byte :=
  beBytes (l.width k) (if k.named then (l.code k v.toNat : Int) else v)

/-- The bytes of a field. -/
def LayoutChoice.fieldBytes (l : LayoutChoice) : AnswerField → List Byte
  | .always k v => l.valueBytes k v
  | .optional k (some v) => l.present k ++ l.valueBytes k v
  | .optional k none => l.absent k

/-- R181: a layout of answers: every value of a kind has room, different names have different codes, and no answer has more than 255 payload bytes, its status among them. -/
structure AnswerLayout extends LayoutChoice where
  wide : ∀ k : FieldKind, k.span ≤ 256 ^ width k
  coded : ∀ (k : FieldKind) (n : Nat), n < k.span → code k n < 256 ^ width k
  distinct : ∀ (k : FieldKind) (m n : Nat), m < k.span → n < k.span → code k m = code k n → m = n
  fits : ∀ d : AnswerData, (d.fields.flatMap toLayoutChoice.fieldBytes).length ≤ 254

/-- R172: the code of the restart cause in an answer. -/
def RestartCause.code : RestartCause → Nat
  | .none => 0
  | .powerOn => 1
  | .supplyCut => 2
  | .pin => 3

/-- The data bytes of an answer: its fields in their order. That CAUSE carries its code and its count in one byte each, and each other field whole bytes of its own, is the model's reading (log entry 17). -/
def AnswerData.bytes (layout : AnswerLayout) : AnswerData → List Byte
  | .cause c n => [byteOf c.code, byteOf n]
  | d => d.fields.flatMap layout.fieldBytes

end Sys2Proof.Machine
end

