-- ==== Sys2Proof/Machine/ServicePort.lean ====
section
/-! DEFINITION. The Service Line: its receiver (R182), the taking of a message (R181, R183), the read commands (R184, R185) and the commands that act (R186, R187, R190, R163, R173). -/

namespace Sys2Proof.Machine

/-! ### Messages -/

/-- R181: the sum of length, command, payload and checksum bytes is 0 modulo 256. -/
def checksumGood (command : Byte) (payload : List Byte) (checksum : Byte) : Bool :=
  decide ((payload.length + command.toNat + (payload.map (·.toNat)).sum + checksum.toNat) % 256 = 0)

/-- R181: the checksum byte of a message: the two's complement of the sum of its length, command and payload bytes. -/
def messageChecksum (command : Byte) (payload : List Byte) : Byte :=
  byteOf (256 - (payload.length + command.toNat + (payload.map (·.toNat)).sum) % 256)

/-- R181: the bytes of a message in either direction, in the order they are sent. -/
def messageBytes (command : Byte) (payload : List Byte) : List Byte :=
  0xA5#8 :: byteOf payload.length :: command :: (payload ++ [messageChecksum command payload])

/-- R181: the code of an answer's status. -/
def AnswerStatus.code : AnswerStatus → Nat
  | .ok => 0
  | .nak => 1
  | .unknown => 2
  | .badValue => 3
  | .notMember => 4
  | .notReady => 5

/-- R181: the payload of an answer: the status, then the data. -/
def Answer.payload (a : Answer) (layout : AnswerLayout) : List Byte :=
  byteOf a.status.code :: a.data.bytes layout

/-- R181: the bytes of an answer; its command byte repeats the command answered. -/
def Answer.bytes (a : Answer) (layout : AnswerLayout) : List Byte :=
  messageBytes a.command (a.payload layout)

/-- R181: the thirteen commands with their payload read. -/
inductive ServiceCommand where
  | status
  | entry (place : Nat)
  | capacity
  | setpointRead
  | setpointSet (value : Nat) (mode : SetMode)
  | offsetSet (offset : Int)
  | events
  | counters
  | clearCounters
  | cause
  | clearFault
  | park (depth : ParkDepth) (wakeAfter : Nat)
  | mask (mask : BitVec 32)
deriving DecidableEq, Repr

/-- A command without payload. -/
def plainCommand (p : List Byte) (c : ServiceCommand) : Option ServiceCommand :=
  if p.length = 0 then some c else none

/-- R185: ENTRY, its place at most 11. -/
def parseEntry (p : List Byte) : Option ServiceCommand :=
  if p.length = 1 ∧ (byteAt p 0).toNat ≤ 11 then some (.entry (byteAt p 0).toNat) else none

/-- R187: SETPOINT SET, value 160..300 and mode 0..4. -/
def parseSetpoint (p : List Byte) : Option ServiceCommand :=
  match setModeOfCode (byteAt p 2).toNat with
  | none => none
  | some m =>
    if p.length = 3 ∧ 160 ≤ be16At p 0 ∧ be16At p 0 ≤ 300 then some (.setpointSet (be16At p 0) m)
    else none

/-- R186: OFFSET SET, −30..+30. -/
def parseOffset (p : List Byte) : Option ServiceCommand :=
  if p.length = 1 ∧ -30 ≤ signed8 (byteAt p 0) ∧ signed8 (byteAt p 0) ≤ 30 then
    some (.offsetSet (signed8 (byteAt p 0)))
  else none

/-- R187: PARK, depth 0..1 and wake-after 0..1440. -/
def parsePark (p : List Byte) : Option ServiceCommand :=
  match parkDepthOfCode (byteAt p 0).toNat with
  | none => none
  | some d => if p.length = 3 ∧ be16At p 1 ≤ 1440 then some (.park d (be16At p 1)) else none

/-- R186: MASK, four bytes. -/
def parseMask (p : List Byte) : Option ServiceCommand :=
  if p.length = 4 then some (.mask (BitVec.ofNat 32 (be16At p 0 * 65536 + be16At p 2))) else none

/-- R181, R183: the command of a code and a payload; none is BAD_VALUE. -/
def parseCommand (code : Nat) (p : List Byte) : Option ServiceCommand :=
  match code with
  | 1 => plainCommand p .status
  | 2 => parseEntry p
  | 3 => plainCommand p .capacity
  | 4 => plainCommand p .setpointRead
  | 5 => parseSetpoint p
  | 6 => parseOffset p
  | 7 => plainCommand p .events
  | 8 => plainCommand p .counters
  | 9 => plainCommand p .clearCounters
  | 10 => plainCommand p .cause
  | 11 => plainCommand p .clearFault
  | 12 => parsePark p
  | 13 => parseMask p
  | _ => none

/-- R183: the code is one of the thirteen. -/
def knownCode (code : Nat) : Bool := decide (1 ≤ code) && decide (code ≤ 13)

/-- R183: the station states in which only STATUS and CAUSE are let through. -/
def Station.notReady : Station → Bool
  | .configRead | .configFault => true
  | .settling | .joining | .member | .linkQuiet | .isolated | .parkedLight | .parkedDeep => false

/-- R183: STATUS and CAUSE. -/
def alwaysReady (code : Nat) : Bool := decide (code = 1) || decide (code = 10)

/-- R187: the commands that need MEMBER. -/
def ServiceCommand.needsMember : ServiceCommand → Bool
  | .setpointSet _ _ => true
  | .park _ _ => true
  | .status | .entry _ | .capacity | .setpointRead | .offsetSet _ | .events | .counters
  | .clearCounters | .cause | .clearFault | .mask _ => false

/-! ### Reading state -/

/-- R124, R184: the outdoor fault state, absent when no outdoor sensor is configured. -/
def State.outdoorFaultNow (s : State) : Option Bool :=
  if s.cfg.image.any (·.outdoorPresent) then some s.zlp.outdoorFault else none

/-- R184: the data of a STATUS answer. -/
def State.statusData (s : State) : StatusData :=
  { station := s.mbr.station, parkDepth := s.mbr.parkDepth, lastWake := s.mbr.lastWake
    faultReason := s.cfg.reason, faultOffset := s.cfg.offset
    supplyLevel := s.sup.level, supplySample := s.sup.sample
    heard := s.lnk.heard, untracked := s.stb.untracked, overdraw := s.cjg.overdraw
    lastVeto := s.cjg.lastVeto, zoneMode := s.zlp.activeMode, zone := s.zlp.zone
    zoneFault := s.zlp.zoneFault, dischargeFault := s.zlp.dischargeFault
    outdoorFault := s.outdoorFaultNow, target := s.zlp.target
    blowerDuty := s.dcc.blower.active, heatDuty := s.dcc.heat.active
    coolDuty := s.dcc.cool.active
    homed := s.dcc.damper.homed, position := s.dcc.damper.position
    damperTarget := s.dcc.damper.target, motion := s.dcc.damper.motion
    condition := s.dcc.fan.condition, stallCount := s.dcc.fan.stallCount
    blowerLatch := s.dcc.fan.faultLatch, damperLatch := s.dcc.damper.faultLatch
    lastWindow := s.dcc.fan.lastWindow, tachPeriod := s.dcc.fan.period
    eventsHeld := s.svc.fifo.length, lost := s.svc.lost }

/-- R185: the entry at a place, place 0 the self entry. -/
def ShareTable.place (t : ShareTable) : Nat → Option Entry
  | 0 => t.self
  | k + 1 => t.order[k]?

/-- R185: the number of entries. -/
def ShareTable.size (t : ShareTable) : Nat := t.self.toList.length + t.order.length

/-- R185: a capacity record in an answer. -/
def CapacityRecord.data (c : CapacityRecord) : CapacityData :=
  { value := c.value, source := c.source, state := c.state }

/-! ### Commands that act -/

/-- R163: the fault latches and the stall count cleared. -/
def Drives.clearLatches (d : Drives) : Drives :=
  { d with damper := { d.damper with faultLatch := false }
           fan := { d.fan with
             faultLatch := false, stallCount := 0
             condition := if d.fan.condition = .fault then .running else d.fan.condition } }

/-- R163: CLEAR FAULT. -/
def State.clearFaults (s : State) : State :=
  let s1 := s.changeDrives Drives.clearLatches
  let s2 := if s.dcc.fan.condition = .fault then s1.blowerReport else s1
  if s.dcc.damper.faultLatch && s2.mbr.station.converts then s2.homeDamper else s2

/-- R190: the FIFO after up to four records are removed, and the lost count cleared. -/
def ServiceLine.taken (v : ServiceLine) : ServiceLine := { v with fifo := v.fifo.drop 4, lost := 0 }

/-- R190: the data of an EVENTS answer. -/
def ServiceLine.eventsData (v : ServiceLine) : AnswerData :=
  .events (v.fifo.take 4).length v.lost (v.fifo.take 4)

/-- R184 to R187, R190: the data of the answer to a command that is let through. -/
def State.answerData (s : State) : ServiceCommand → AnswerData
  | .status => .status s.statusData
  | .entry n => .entry s.stb.size (s.stb.place n)
  | .capacity => .capacity (s.csr.capacity.map CapacityRecord.data)
  | .setpointRead => .setpoint s.csr.setpoint
  | .setpointSet _ _ => .none
  | .offsetSet _ => .none
  | .events => s.svc.eventsData
  | .counters => .counters s.lnk.counters
  | .clearCounters => .none
  | .cause => .cause s.sup.cause s.sup.cutCount
  | .clearFault => .none
  | .park _ _ => .none
  | .mask _ => .none

/-- R186, R187, R190: the effect of a command that is let through. -/
def State.obey (s : State) : ServiceCommand → State
  | .status => s
  | .entry _ => s
  | .capacity => s
  | .setpointRead => s
  | .setpointSet v m => s.ask (.setpoint { value := v, mode := m })
  | .offsetSet x => s.setSvc { s.svc with offset := x }
  | .events => s.setSvc s.svc.taken
  | .counters => s
  | .clearCounters => s.setLnk { s.lnk with counters := .zero }
  | .cause => s.setSup { s.sup with cause := .none }
  | .clearFault => s.clearFaults
  | .park d w => s.ask (.park { depth := d, wakeAfter := w })
  | .mask m => s.setSvc { s.svc with mask := m }

/-- R182, R183: the answer is being sent and the receiver is BUSY. The checksum byte was stored in BODY, so it has started the inter-byte timer like any other, and the timer runs on (log entry 41). -/
def State.reply (s : State) (command : Byte) (status : AnswerStatus) (data : AnswerData) : State :=
  s.setSvc { s.svc with rx := .busy, length := 0, buffer := []
                        interByte := s.after Config.interByteTime
                        answer := some { command := command, status := status, data := data } }

/-- R183: a command with a good checksum. -/
def State.takeCommand (s : State) (command : Byte) (payload : List Byte) : State :=
  if !knownCode command.toNat then s.reply command .unknown .none
  else if s.mbr.station.notReady && !alwaysReady command.toNat then
    s.reply command .notReady .none
  else
    match parseCommand command.toNat payload with
    | none => s.reply command .badValue .none
    | some c =>
      if c.needsMember && !s.isMember then s.reply command .notMember .none
      else (s.obey c).reply command .ok (s.answerData c)

/-- R183: a message taken at its checksum byte. -/
def State.takeMessage (s : State) (command : Byte) (payload : List Byte) (checksum : Byte) :
    State :=
  if checksumGood command payload checksum then s.takeCommand command payload
  else s.reply command .nak .none

/-- R182: the partial message discarded; the inter-byte timer is as it was (log entry 41). -/
def State.hunt (s : State) : State :=
  s.setSvc { s.svc with rx := .hunt, length := 0, buffer := [] }

/-- R182, R183: a whole message arrives: discarded in BUSY, and with a length above 8 (log entry 17). -/
def State.message (s : State) (command : Byte) (m : ServiceMessage) : State :=
  if s.svc.rx = .busy then s
  else if 8 < m.payload.length then s.hunt
  else s.takeMessage command m.payload m.checksum

/-! ### The receiver -/

/-- R182: the buffer holds the command, the payload and the checksum. -/
def State.takeBuffer (s : State) (buffer : List Byte) : State :=
  s.takeMessage (byteAt buffer 0) ((buffer.drop 1).take s.svc.length)
    (byteAt buffer (s.svc.length + 1))

/-- R182: a byte in BODY. -/
def State.bodyByte (s : State) (b : Byte) : State :=
  let buffer := s.svc.buffer ++ [b]
  if s.svc.length + 2 ≤ buffer.length then s.takeBuffer buffer
  else s.setSvc { s.svc with buffer := buffer, interByte := s.after Config.interByteTime }

/-- R182: a byte in LENGTH. -/
def State.lengthByte (s : State) (b : Byte) : State :=
  if b.toNat ≤ 8 then
    s.setSvc { s.svc with rx := .body, length := b.toNat, buffer := []
                          interByte := s.after Config.interByteTime }
  else s.hunt

/-- R182: a character without a framing error. -/
def State.serviceByte (s : State) (b : Byte) : State :=
  match s.svc.rx with
  | .hunt => if b = 0xA5#8 then s.setSvc { s.svc with rx := .length } else s
  | .length => s.lengthByte b
  | .body => s.bodyByte b
  | .busy => s

/-- R182: the receive states in which the expiry of the inter-byte timer discards a partial message. -/
def RxState.partway : RxState → Bool
  | .length | .body => true
  | .hunt | .busy => false

/-- R182: the inter-byte timer expires, with an effect in LENGTH and BODY only. -/
def State.interByteEnd (s : State) : State :=
  match s.svc.interByte with
  | none => s
  | some _ =>
    let s1 := s.setSvc { s.svc with interByte := none }
    if s1.svc.rx.partway then s1.hunt else s1

/-- R182: the last stop bit of the answer has been sent. -/
def State.answerEnd (s : State) : State :=
  if s.svc.rx = .busy then s.setSvc { s.svc with rx := .hunt, answer := none } else s

/-- SERVICE_BYTE_RECEIVED. -/
def execServiceByteReceived (b : Byte) (framingError : Bool) (s : State) :
    Host.Outcome State Fault Refusal :=
  s.run fun s => if framingError then s else s.serviceByte b

/-- INTER_BYTE_TIMER_EXPIRY. -/
def execInterByteTimerExpiry (s : State) : Host.Outcome State Fault Refusal :=
  s.run State.interByteEnd

/-- ANSWER_SENT. -/
def execAnswerSent (s : State) : Host.Outcome State Fault Refusal := s.run State.answerEnd

/-- STATUS. -/
def execStatus (m : ServiceMessage) (s : State) : Host.Outcome State Fault Refusal :=
  s.run fun s => s.message 1#8 m

/-- ENTRY. -/
def execEntry (m : ServiceMessage) (s : State) : Host.Outcome State Fault Refusal :=
  s.run fun s => s.message 2#8 m

/-- CAPACITY. -/
def execCapacity (m : ServiceMessage) (s : State) : Host.Outcome State Fault Refusal :=
  s.run fun s => s.message 3#8 m

/-- SETPOINT_READ. -/
def execSetpointRead (m : ServiceMessage) (s : State) : Host.Outcome State Fault Refusal :=
  s.run fun s => s.message 4#8 m

/-- SETPOINT_SET. -/
def execSetpointSet (m : ServiceMessage) (s : State) : Host.Outcome State Fault Refusal :=
  s.run fun s => s.message 5#8 m

/-- OFFSET_SET. -/
def execOffsetSet (m : ServiceMessage) (s : State) : Host.Outcome State Fault Refusal :=
  s.run fun s => s.message 6#8 m

/-- EVENTS. -/
def execEvents (m : ServiceMessage) (s : State) : Host.Outcome State Fault Refusal :=
  s.run fun s => s.message 7#8 m

/-- COUNTERS. -/
def execCounters (m : ServiceMessage) (s : State) : Host.Outcome State Fault Refusal :=
  s.run fun s => s.message 8#8 m

/-- CLEAR_COUNTERS. -/
def execClearCounters (m : ServiceMessage) (s : State) : Host.Outcome State Fault Refusal :=
  s.run fun s => s.message 9#8 m

/-- CAUSE. -/
def execCause (m : ServiceMessage) (s : State) : Host.Outcome State Fault Refusal :=
  s.run fun s => s.message 10#8 m

/-- CLEAR_FAULT. -/
def execClearFault (m : ServiceMessage) (s : State) : Host.Outcome State Fault Refusal :=
  s.run fun s => s.message 11#8 m

/-- PARK. -/
def execPark (m : ServiceMessage) (s : State) : Host.Outcome State Fault Refusal :=
  s.run fun s => s.message 12#8 m

/-- MASK. -/
def execMask (m : ServiceMessage) (s : State) : Host.Outcome State Fault Refusal :=
  s.run fun s => s.message 13#8 m

end Sys2Proof.Machine
end

