-- ==== Sys2Proof/Machine/ZoneInterval.lean ====
section
/-! DEFINITION. The Zone Loop: the control interval with its eleven stages (R124 to R143), the claim decision (R97), cut and yield (R41, R47), the door hold (R134), samples (R122) and its timers. -/

namespace Sys2Proof.Machine

/-! ### Readings -/

/-- R122, R124: a reading that counts as faulted. -/
def Reading.bad (x : Reading) : Bool := x.temp.isNone

/-! ### Stage 1: fault states (R124, R139) -/

/-- R124: the event of a fault state that goes from clear to set. Those of different sensors enter in either order (log entry 4), all of them before a DOOR_HOLD of the same interval (R126). -/
def State.raiseFault (s : State) (was now : Bool) (code : Nat) : State :=
  if now && !was then s.raise { block := .zlp, slot := code } .sensorFault none none (some code)
  else s

/-- R139: the forced releases at the onset of a return-air fault. -/
def State.returnFaultRelease (s : State) (was now : Bool) : State :=
  if now && !was then (s.forceRelease .heat 0).forceRelease .cool 0 else s

/-- Stage 1. -/
def State.stageFaults (s : State) (img : Image) : State :=
  let z := s.zlp
  let outdoorBad := img.outdoorPresent && z.outdoor.bad
  let s1 := s.setZlp { z with zoneFault := z.zone.bad, dischargeFault := z.discharge.bad
                              outdoorFault := outdoorBad }
  let s2 := ((s1.raiseFault z.zoneFault z.zone.bad 1).raiseFault z.dischargeFault
    z.discharge.bad 2).raiseFault z.outdoorFault outdoorBad 3
  s2.returnFaultRelease z.zoneFault z.zone.bad

/-! ### Stage 2: target (R127) -/

/-- R127: the zone target. -/
def targetOf (setpoint : Nat) (zoneOffset serviceOffset : Int) : Int :=
  clampInt 160 300 ((setpoint : Int) + zoneOffset + serviceOffset)

/-- Stage 2. -/
def State.stageTarget (s : State) (img : Image) (p : SetpointRecord) : State :=
  s.setZlp { s.zlp with target := some (targetOf p.value img.zoneOffset s.svc.offset) }

/-- R127: the error e = T − Z, defined while Z is valid. -/
def ZoneLoop.error (z : ZoneLoop) : Option Int :=
  match z.target, z.zone.temp with
  | some t, some x => some (t - x)
  | _, _ => none

/-! ### Stage 3: mode (R128 to R130) -/

/-- R128: the freeze wake indication after this interval's look at Z. -/
def keepsFreeze (freeze : Bool) (zone : Reading) : Bool :=
  match zone.temp with
  | some t => freeze && decide (t < 80)
  | none => freeze

/-- R129: the sub-mode chosen when AUTO begins. -/
def chosenSubMode (e : Option Int) : SubMode :=
  match e with
  | some d => if 0 < d then .heat else .cool
  | none => .heat

/-- R129: the switch of a later interval, or none. The error is T − Z. -/
def switchedSubMode (m : SubMode) (e : Option Int) : Option SubMode :=
  match m, e with
  | .heat, some d => if d < -10 then some .cool else none
  | .cool, some d => if 10 < d then some .heat else none
  | _, _ => none

/-- R129: the AUTO sub-mode and the switch timer. The record is looked at at intervals only (R60), so a record that leaves AUTO and is back in AUTO at the next interval keeps both: the model's choice (log entry 36). -/
def ZoneLoop.autoMode (z : ZoneLoop) (mode : SetMode) (deadline : Timer) : ZoneLoop :=
  if mode ≠ .auto then { z with subMode := .none, switchTimer := none }
  else if z.subMode = .none then
    { z with subMode := chosenSubMode z.error, switchTimer := deadline }
  else if z.switchTimer.isSome then z
  else
    match switchedSubMode z.subMode z.error with
    | some m => { z with subMode := m, switchTimer := deadline }
    | none => z

/-- R128: the active mode of a setpoint mode and a sub-mode. -/
def activeOf (mode : SetMode) (sub : SubMode) : ZoneMode :=
  match mode, sub with
  | .off, _ => .off
  | .vent, _ => .vent
  | .heat, _ => .heat
  | .cool, _ => .cool
  | .auto, .cool => .cool
  | .auto, .heat => .heat
  | .auto, .none => .heat

/-- R130: whether a new active mode uses a resource. -/
def ZoneMode.uses : ZoneMode → Resource → Bool
  | .off, _ => false
  | .vent, .power => true
  | .vent, .cool => false
  | .vent, .heat => false
  | .heat, .heat => true
  | .heat, .power => true
  | .heat, .cool => false
  | .cool, .cool => true
  | .cool, .power => true
  | .cool, .heat => false

/-- The resource that HEAT and COOL run. -/
def ZoneMode.resource : ZoneMode → Option Resource
  | .heat => some .heat
  | .cool => some .cool
  | .off => none
  | .vent => none

/-- R130: the other of HEAT and COOL. -/
def otherOf : Resource → Resource
  | .heat => .cool
  | .cool => .heat
  | .power => .power

/-- R130: the block a changeover sets. -/
def blockAfter (m : ZoneMode) (e : Entry) : Option Resource :=
  match m.resource with
  | some r => if 0 < e.committed.get (otherOf r) then some r else none
  | none => none

/-- R130: the block is cleared once the other resource holds nothing. -/
def blockKept (b : Option Resource) (e : Entry) : Option Resource :=
  match b with
  | some r => if e.committed.get (otherOf r) = 0 then none else some r
  | none => none

/-- R130: the loop demand of a resource that the new mode does not use. -/
def unusedZero (m : ZoneMode) (demand : Per Nat) : Per Nat :=
  Per.of fun r => if m.uses r then demand.get r else 0

/-- R130: the forced release of a resource the new mode does not use. -/
def State.releaseUnused (s : State) (m : ZoneMode) (r : Resource) : State :=
  if m.uses r then s else s.forceRelease r 0

/-- R130: a changeover to a mode. -/
def State.changeover (s : State) (m : ZoneMode) (e : Entry) : State :=
  let s1 := s.setZlp { s.zlp with
    activeMode := some m, integHeat := 0, integCool := 0, boostTimer := none
    demand := unusedZero m s.zlp.demand, block := blockAfter m e }
  ((s1.releaseUnused m .cool).releaseUnused m .heat).releaseUnused m .power

/-- Stage 3. -/
def State.stageMode (s : State) (p : SetpointRecord) (e : Entry) : State :=
  let freeze := keepsFreeze s.mbr.freezeWake s.zlp.zone
  let s1 := (s.setMbr { s.mbr with freezeWake := freeze }).setZlp
    (s.zlp.autoMode p.mode (s.after Config.switchTime))
  let m := if freeze then ZoneMode.heat else activeOf p.mode s1.zlp.subMode
  if s1.zlp.activeMode = some m then
    s1.setZlp { s1.zlp with block := blockKept s1.zlp.block e }
  else s1.changeover m e

/-! ### Stage 4: boost and loop demand (R131, R132, R139) -/

/-- R131: e′ of a mode. -/
def directed (m : ZoneMode) (e : Int) : Int :=
  match m with
  | .cool => -e
  | .heat => e
  | .off => e
  | .vent => e

/-- R131: the proportional part. -/
def proportional (gain : Nat) (x : Int) : Int :=
  if -5 ≤ x ∧ x ≤ 5 then 0 else ((gain : Int) * x).tdiv 8

/-- R131: the integrator step, doubled while boost stands. -/
def integralStep (gain : Nat) (x : Int) (boost : Bool) : Int :=
  if boost then 2 * ((gain : Int) * x).tdiv 32 else ((gain : Int) * x).tdiv 32

/-- R131: clamp to 0..rating, as an amount. -/
def clampRating (rating : Nat) (x : Int) : Nat := (clampInt 0 rating x).toNat

/-- R131: the integrator after an interval. -/
def integrated (rating : Nat) (i : Nat) (step : Int) (held : Bool) : Nat :=
  if held then i else clampRating rating ((i : Int) + step)

/-- R132: the boost timer at an interval in HEAT or COOL with the error e; none stops it (R139). -/
def boostAfter (timer : Timer) (e : Option Int) (threshold : Nat) (deadline : Timer) : Timer :=
  match e with
  | none => none
  | some d => if threshold ≤ d.natAbs then deadline else timer

/-- R131: the rating of HEAT or COOL. -/
def Image.rating (img : Image) : Resource → Nat
  | .heat => img.heatRating
  | .cool => img.coolRating
  | .power => img.blowerFull

/-- R131, R135, R142: the integrator is held while the interlock, a door hold or, for COOL, the frost guard stands. -/
def ZoneLoop.holdsIntegrator (z : ZoneLoop) (r : Resource) : Bool :=
  z.interlock || decide (z.hold ≠ .none) || (decide (r = .cool) && z.frostTimer.isSome)

/-- R131: the integrator of a resource. -/
def ZoneLoop.integrator (z : ZoneLoop) : Resource → Nat
  | .heat => z.integHeat
  | .cool => z.integCool
  | .power => 0

/-- R131: the loop with one active resource; the other's demand and integrator are 0. -/
def ZoneLoop.withLoop (z : ZoneLoop) (r : Resource) (i d : Nat) : ZoneLoop :=
  match r with
  | .heat => { z with integHeat := i, integCool := 0, demand := { z.demand with heat := d, cool := 0 } }
  | .cool => { z with integCool := i, integHeat := 0, demand := { z.demand with cool := d, heat := 0 } }
  | .power => z

/-- R131, R139: no loop runs: demands and integrators of HEAT and COOL are 0. -/
def ZoneLoop.noLoop (z : ZoneLoop) : ZoneLoop :=
  { z with integHeat := 0, integCool := 0, demand := { z.demand with heat := 0, cool := 0 } }

/-- R131: the loop of the active resource with the error e. -/
def ZoneLoop.runLoop (z : ZoneLoop) (img : Image) (m : ZoneMode) (r : Resource) (e : Int) :
    ZoneLoop :=
  let x := directed m e
  let i := integrated (img.rating r) (z.integrator r)
    (integralStep img.gainI x z.boostTimer.isSome) (z.holdsIntegrator r)
  z.withLoop r i (clampRating (img.rating r) (proportional img.gainP x + (i : Int)))

/-- Stage 4. -/
def State.stageLoop (s : State) (img : Image) : State :=
  let m := s.zlp.activeMode.getD .off
  match m.resource with
  | none => s.setZlp s.zlp.noLoop
  | some r =>
    let z := { s.zlp with boostTimer := boostAfter s.zlp.boostTimer s.zlp.error img.boostThreshold
                                          (s.after Config.boostTime) }
    match z.error with
    | none => s.setZlp z.noLoop
    | some e => s.setZlp (z.runLoop img m r e)

/-! ### Stage 5: frost guard and economiser (R136, R137) -/

/-- R136: this interval sees frost. -/
def ZoneLoop.frost (z : ZoneLoop) : Bool :=
  z.dischargeFault ||
    (match z.discharge.temp with
     | some t => decide (t < 20)
     | none => false)

/-- R136: the frost timer started or restarted, with the forced release at its start. -/
def State.frostSeen (s : State) (e : Entry) : State :=
  if s.zlp.frost then
    let s1 := s.setZlp { s.zlp with frostTimer := s.after Config.frostTime }
    if s.zlp.frostTimer.isNone && decide (0 < e.committed.cool) then s1.forceRelease .cool 0 else s1
  else s

/-- R136: while the frost timer runs, COOL is 0. -/
def ZoneLoop.frostGuarded (z : ZoneLoop) : ZoneLoop :=
  if z.frostTimer.isSome then { z with integCool := 0, demand := { z.demand with cool := 0 } }
  else z

/-- R137: the outdoor temperature the economiser uses: the self entry's, or a peer's of at most 60 s. That R20's 60 s do not bound the self entry's own reading is the model's choice (log entry 38); log entry 12 says which interval's reading it is. -/
def ShareTable.usableOutdoor (t : ShareTable) : Option Int :=
  match t.self.bind (·.outdoor) with
  | some o => some o.temp
  | none =>
    match t.outdoorReading with
    | some o => if o.age ≤ 60 then some o.temp else none
    | none => none

/-- R137: whether the economiser acts. -/
def State.economises (s : State) : Bool :=
  match s.zlp.activeMode, s.stb.usableOutdoor, s.zlp.zone.temp with
  | some .cool, some o, some z => decide (o ≤ z - 30)
  | _, _, _ => false

/-- R137: the damper target. -/
def State.damperTarget (s : State) (img : Image) : Nat :=
  if s.zlp.zone.bad ∨ s.zlp.activeMode = some .off then 0
  else if s.economises then img.travel
  else img.travel * img.minFresh / 1000

/-- Stage 5; the damper target is handed on at stage 11. -/
def State.stageFrost (s : State) (e : Entry) : State :=
  let s1 := s.frostSeen e
  let s2 := s1.setZlp s1.zlp.frostGuarded
  if s2.economises then
    s2.setZlp { s2.zlp with demand := { s2.zlp.demand with cool := s2.zlp.demand.cool / 2 } }
  else s2

/-! ### Classes (R133), read by stages 6 and 7 (R135) and set at stage 8 -/

/-- R133: RECOVERY while boost stands, otherwise COMFORT. -/
def ZoneLoop.ordinaryClass (z : ZoneLoop) : ClaimClass :=
  if z.boostTimer.isSome then .recovery else .comfort

/-- R133: the class of HEAT and COOL. -/
def State.valveClass (s : State) (r : Resource) : ClaimClass :=
  match s.zlp.zone.temp, s.zlp.activeMode with
  | none, _ => .comfort
  | some _, none => .comfort
  | some _, some .off => .comfort
  | some _, some .vent => .comfort
  | some _, some .cool => s.zlp.ordinaryClass
  | some t, some .heat =>
    if r = .heat ∧ (t < 80 ∨ s.mbr.freezeWake = true) then .protection else s.zlp.ordinaryClass

/-- R133: the airflow amount. -/
def Image.airflowAmount (img : Image) : Nat := ceilDiv (img.airflowMin * img.blowerFull) 1000

/-- R133: the class of POWER. -/
def State.powerClass (s : State) (img : Image) (e : Entry) : ClaimClass :=
  if (0 < s.zlp.demand.cool ∨ 0 < s.zlp.demand.heat ∨ 0 < e.committed.cool ∨
      0 < e.committed.heat) ∧ e.committed.power < img.airflowAmount then .protection
  else s.zlp.ordinaryClass

/-! ### Stage 6: door ceilings (R135) -/

/-- R135: a demand lowered to its ceiling, unless its class is PROTECTION. -/
def ceiled (c : ClaimClass) (ceiling : Option Nat) (d : Nat) : Nat :=
  match c with
  | .protection => d
  | .recovery => belowTarget ceiling d
  | .comfort => belowTarget ceiling d

/-- R135: the ceiling that stands for a resource; none while no hold does. -/
def ZoneLoop.standingCeiling (z : ZoneLoop) (r : Resource) : Option Nat :=
  if z.hold = .none then none else z.ceiling.get r

/-- Stage 6, for COOL and HEAT; the POWER demand is lowered at stage 7 (R138). -/
def State.stageCeilings (s : State) : State :=
  let z := s.zlp
  s.setZlp { z with demand := { z.demand with
    cool := ceiled (s.valveClass .cool) (z.standingCeiling .cool) z.demand.cool
    heat := ceiled (s.valveClass .heat) (z.standingCeiling .heat) z.demand.heat } }

/-! ### Stage 7: blower and POWER (R138, R140) -/

/-- R138: the blower duty of a loop demand. -/
def loopDuty (img : Image) (r : Resource) (d : Nat) : Nat :=
  min 1000 (img.airflowMin + d * (1000 - img.airflowMin) / img.rating r)

/-- R138: the blower demand duty, before the shed. -/
def State.blowerDuty (s : State) (img : Image) : Nat :=
  if s.dcc.fan.condition ≠ .running then 0
  else
    match s.zlp.activeMode with
    | none => 0
    | some .off => 0
    | some .vent => img.ventDuty
    | some .heat => if s.zlp.zone.bad then img.ventDuty else loopDuty img .heat s.zlp.demand.heat
    | some .cool => if s.zlp.zone.bad then img.ventDuty else loopDuty img .cool s.zlp.demand.cool

/-- R140: an amount lowered while the shed flag is yes. -/
def shedTo (shed : Bool) (limit x : Nat) : Nat := if shed then min x limit else x

/-- Stage 7. -/
def State.stagePower (s : State) (img : Image) (e : Entry) : State :=
  let duty := s.blowerDuty img
  let floor := e.floorOr0 .power
  let wanted := shedTo e.shed floor (ceilDiv (duty * img.blowerFull) 1000)
  let power := ceiled (s.powerClass img e) (s.zlp.standingCeiling .power) wanted
  s.setZlp { s.zlp with
    blowerDuty := shedTo e.shed (shedDuty floor img.blowerFull) duty
    demand := { s.zlp.demand with power := power } }

/-! ### Stages 8 to 11 -/

/-- Stage 8. -/
def State.stageClasses (s : State) (img : Image) (e : Entry) : State :=
  s.setZlp { s.zlp with
    classes := ⟨s.valveClass .cool, s.valveClass .heat, s.powerClass img e⟩ }

/-- R3: the self entry's outdoor reading. -/
def ZoneLoop.outdoorNow (z : ZoneLoop) (img : Image) : Option OutdoorReading :=
  if img.outdoorPresent then z.outdoor.temp.map fun t => { temp := t, age := 0 } else none

/-- R3, R142: the demands published in the self entry. -/
def ZoneLoop.published (z : ZoneLoop) : Per (Option Nat) :=
  { cool := some (if z.interlock then 0 else z.demand.cool)
    heat := some (if z.interlock then 0 else z.demand.heat)
    power := some z.demand.power }

/-- R3, R139: the self entry at stage 10. -/
def Entry.atInterval (e : Entry) (z : ZoneLoop) (img : Image) : Entry :=
  { e with demand := z.published, zoneTemp := z.zone.temp, mode := z.activeMode
           outdoor := z.outdoorNow img }

/-- Stage 10, with the STATE that a change of mode asks for (R100). -/
def State.stageEntry (s : State) (img : Image) (e : Entry) : State :=
  let s1 := s.mapSelf fun x => x.atInterval s.zlp img
  if e.mode ≠ s.zlp.activeMode then s1.ask .state else s1

/-- R134, R135: the hold comes to OPEN from NONE: the self entry's demands are its ceilings. -/
def State.openHold (s : State) : State :=
  match s.stb.self with
  | none => s
  | some e =>
    (s.setZlp { s.zlp with hold := .opened, ceiling := Per.of fun r => some (e.demandOr r) }).raise
      zlpOrigin .doorHold none none (some 1)

/-- R134: a door found active at the first interval after entering MEMBER. -/
def State.doorAtFirst (s : State) (img : Image) (first : Bool) : State :=
  if first && img.doorEnabled && s.zlp.doorActive && decide (s.zlp.hold = .none) then s.openHold
  else s

/-- Stages 1 to 5 on the self entry as it stood. -/
def State.stagesToDemand (s : State) (img : Image) (p : SetpointRecord) (e : Entry) : State :=
  ((((s.stageFaults img).stageTarget img p).stageMode p e).stageLoop img).stageFrost e

/-- Stages 6 to 10 on the self entry as it stood. -/
def State.stagesToEntry (s : State) (img : Image) (e : Entry) : State :=
  let s8 := (s.stageCeilings.stagePower img e).stageClasses img e
  (s8.evalInterlock img e).stageEntry img e

/-- R126: stages 1 to 11. -/
def State.stages (s : State) (img : Image) (p : SetpointRecord) (e : Entry) : State :=
  let s5 := s.stagesToDemand img p e
  let s10 := (s5.stagesToEntry img e).doorAtFirst img s.zlp.activeMode.isNone
  (s10.recomputeCaps).pushDamper (s5.damperTarget img)

/-! ### Claim decision, cut, yield -/

/-- R97: the key holds a RELEASE intent or a pending RELEASE replacement. -/
def TransmitQueue.holdsRelease (q : TransmitQueue) (r : Resource) : Bool :=
  (match q.intents.claim.get r with
   | some (.release _) => true
   | some (.request _) => false
   | none => false) ||
  (match q.replacements.claim.get r with
   | some (.release _) => true
   | some (.request _) => false
   | none => false)

/-- R97: whether a REQUEST may be asked for. -/
def State.mayRaise (s : State) (r : Resource) : Bool :=
  decide (s.zlp.block ≠ some r) && decide (s.cjg.releaseTarget.get r = none) &&
    (s.txq.holdOff.get r).isNone && (s.txq.spacing.get r).isNone && !s.txq.holdsRelease r

/-- R97: the claim decision of one resource. -/
def State.decideClaim (s : State) (r : Resource) : State :=
  match s.stb.self with
  | none => s
  | some e =>
    let d := e.demandOr r
    let c := e.committed.get r
    if d + 8 < c then s.ask (.claim r (.release d))
    else if c < d ∧ s.mayRaise r = true then s.ask (.claim r (.request (s.zlp.classes.get r)))
    else s

/-- R41: the cut computed again while overdraw continues. -/
def State.cutAgain (s : State) (r : Resource) : State :=
  if s.cjg.overdraw.get r then s.computeCut r else s

/-- R47: some counted peer is short by more than the COMFORT headroom. -/
def State.peerUnserved (s : State) (r : Resource) : Bool :=
  let capacity := (s.csr.capacity.get r).value
  let headroom : Int := (capacity : Int) - (reserve capacity : Int) - (s.stb.total r : Int)
  s.stb.order.any fun e =>
    e.present && decide (e.committed.get r < e.demandOr r) &&
      decide (headroom < (e.demandOr r : Int) - (e.committed.get r : Int))

/-- R47: the draw above the own entitlement. -/
def State.ownExcess (s : State) (e : Entry) (r : Resource) : Nat :=
  e.committed.get r - max (fairShare (s.csr.capacity.get r).value e.weightOr1 s.stb.weightSum)
    (e.floorOr0 r)

/-- R47: the yield of one resource. -/
def State.yieldShare (s : State) (r : Resource) : State :=
  match s.stb.self with
  | none => s
  | some e =>
    if s.cjg.overdraw.get r = false ∧ s.cjg.releaseTarget.get r = none ∧
        s.zlp.classes.get r = .comfort ∧ 0 < s.ownExcess e r ∧ s.peerUnserved r = true then
      s.offerTarget r (e.committed.get r - min (s.ownExcess e r) 8)
    else s

/-- One of the three for each resource in turn. -/
def State.eachResource (s : State) (f : State → Resource → State) : State :=
  f (f (f s .cool) .heat) .power

/-- R126: the control interval. -/
def State.interval (s : State) : State :=
  match s.zlp.controlTimer with
  | none => s
  | some _ =>
    let s1 := s.setZlp { s.zlp with controlTimer := none }
    match s.cfg.image, s.csr.setpoint, s.stb.self with
    | some img, some p, some e =>
      if s.isMember then
        let s2 := (s1.setZlp { s1.zlp with
          controlTimer := s1.after Config.controlInterval }).closeWindow
        (((s2.stages img p e).eachResource State.decideClaim).eachResource
          State.cutAgain).eachResource State.yieldShare
      else s1
    | _, _, _ => s1

/-! ### Door, timers, samples -/

/-- R134: the door input becomes active. -/
def State.doorOpened (s : State) : State :=
  match s.zlp.hold with
  | .none => s.openHold
  | .opened => s
  | .runout => s.setZlp { s.zlp with hold := .opened, holdTimer := none }

/-- R134: the door input becomes inactive. -/
def State.doorClosed (s : State) (img : Image) : State :=
  match s.zlp.hold with
  | .none => s
  | .opened =>
    if img.holdTime = 0 then s.endDoorHold
    else s.setZlp { s.zlp with
      hold := .runout, holdTimer := s.after (Config.seconds img.holdTime) }
  | .runout => s

/-- R134: what a change of the door input does in MEMBER. -/
def State.doorHeld (s : State) (active : Bool) : State :=
  match s.cfg.image with
  | none => s
  | some img =>
    if s.isMember && img.doorEnabled then
      if active then s.doorOpened else s.doorClosed img
    else s

/-- R134: a change of the door input. Its level is known while the part is held as well. -/
def State.doorChange (s : State) (active : Bool) : State :=
  let s1 := s.setZlp { s.zlp with doorActive := active }
  if s.held then s1
  else if s.zlp.doorActive = active then s else s1.doorHeld active

/-- R134: the hold timer expires. -/
def State.holdEnd (s : State) : State :=
  match s.zlp.holdTimer with
  | none => s
  | some _ =>
    if s.zlp.hold = .runout then s.endDoorHold else s.setZlp { s.zlp with holdTimer := none }

/-- R122: a reading replaced. -/
def ZoneLoop.withReading (z : ZoneLoop) (x : Sensor) (v : Reading) : ZoneLoop :=
  match x with
  | .returnAir => { z with zone := v }
  | .discharge => { z with discharge := v }
  | .outdoor => { z with outdoor := v }

/-- 10.2: the calibration of a sensor. -/
def Image.calibration (img : Image) : Sensor → Calibration
  | .returnAir => img.returnCal
  | .discharge => img.dischargeCal
  | .outdoor => img.outdoorCal

/-- R122: whether an input is converted: THOUT only when it is configured present. -/
def Image.fitted (img : Image) : Sensor → Bool
  | .returnAir => true
  | .discharge => true
  | .outdoor => img.outdoorPresent

/-- R122: a sample. -/
def State.sensorSample (s : State) (x : Sensor) (count : BitVec 12) : State :=
  match s.cfg.image with
  | none => s
  | some img =>
    if s.mbr.station.converts && img.fitted x then
      s.setZlp (s.zlp.withReading x (convert (img.calibration x) count))
    else s

/-- CONTROL_INTERVAL_EXPIRY. -/
def execControlIntervalExpiry (s : State) : Host.Outcome State Fault Refusal :=
  s.run State.interval

/-- SWITCH_TIMER_EXPIRY (R129). -/
def execSwitchTimerExpiry (s : State) : Host.Outcome State Fault Refusal :=
  s.run fun s => s.setZlp { s.zlp with switchTimer := none }

/-- BOOST_TIMER_EXPIRY (R132). -/
def execBoostTimerExpiry (s : State) : Host.Outcome State Fault Refusal :=
  s.run fun s => s.setZlp { s.zlp with boostTimer := none }

/-- DOOR_INPUT_CHANGE. -/
def execDoorInputChange (active : Bool) (s : State) : Host.Outcome State Fault Refusal :=
  s.always fun s => s.doorChange active

/-- HOLD_TIMER_EXPIRY. -/
def execHoldTimerExpiry (s : State) : Host.Outcome State Fault Refusal := s.run State.holdEnd

/-- FROST_TIMER_EXPIRY (R136). -/
def execFrostTimerExpiry (s : State) : Host.Outcome State Fault Refusal :=
  s.run fun s => s.setZlp { s.zlp with frostTimer := none }

/-- SENSOR_SAMPLE. -/
def execSensorSample (x : Sensor) (count : BitVec 12) (s : State) :
    Host.Outcome State Fault Refusal :=
  s.run fun s => s.sensorSample x count

end Sys2Proof.Machine
end

