-- ==== Sys2Proof/Machine/Dispatch.lean ====
section
/-! DEFINITION. The meaning of each command: one arm per constructor of Instr. -/

namespace Sys2Proof.Machine

/-- The effect of a command on everything but the queue. -/
def exec (i : Instr) (s : State) : Host.Outcome State Fault Refusal :=
  match i with
  | .vlogFall => Sys2Proof.Machine.execVlogFall s
  | .vlogRise => Sys2Proof.Machine.execVlogRise s
  | .resetnLow => Sys2Proof.Machine.execResetnLow s
  | .resetnHigh => Sys2Proof.Machine.execResetnHigh s
  | .supplySample value => Sys2Proof.Machine.execSupplySample value s
  | .recoveryTimerExpiry => Sys2Proof.Machine.execRecoveryTimerExpiry s
  | .readyPollStatus status => Sys2Proof.Machine.execReadyPollStatus status s
  | .configReadEnd block => Sys2Proof.Machine.execConfigReadEnd block s
  | .configReadTimeout => Sys2Proof.Machine.execConfigReadTimeout s
  | .linkIdle => Sys2Proof.Machine.execLinkIdle s
  | .transmissionStart => Sys2Proof.Machine.execTransmissionStart s
  | .arbitrationLost => Sys2Proof.Machine.execArbitrationLost s
  | .bitError => Sys2Proof.Machine.execBitError s
  | .framingFailure cause => Sys2Proof.Machine.execFramingFailure cause s
  | .requestJudged heard => Sys2Proof.Machine.execRequestJudged heard s
  | .malformedArrival kind body slots => Sys2Proof.Machine.execMalformedArrival kind body slots s
  | .voidArrival kind body slots => Sys2Proof.Machine.execVoidArrival kind body slots s
  | .addressClash kind body slots => Sys2Proof.Machine.execAddressClash kind body slots s
  | .requestArrival body slots => Sys2Proof.Machine.execRequestArrival body slots s
  | .releaseArrival body slots => Sys2Proof.Machine.execReleaseArrival body slots s
  | .supplyArrival body slots => Sys2Proof.Machine.execSupplyArrival body slots s
  | .setpointArrival body slots => Sys2Proof.Machine.execSetpointArrival body slots s
  | .stateArrival body slots => Sys2Proof.Machine.execStateArrival body slots s
  | .joinArrival body slots => Sys2Proof.Machine.execJoinArrival body slots s
  | .parkArrival body slots => Sys2Proof.Machine.execParkArrival body slots s
  | .wakeArrival body slots => Sys2Proof.Machine.execWakeArrival body slots s
  | .ownRequestCompletion ack veto => Sys2Proof.Machine.execOwnRequestCompletion ack veto s
  | .ownReleaseCompletion ack => Sys2Proof.Machine.execOwnReleaseCompletion ack s
  | .ownSupplyCompletion ack => Sys2Proof.Machine.execOwnSupplyCompletion ack s
  | .ownSetpointCompletion ack => Sys2Proof.Machine.execOwnSetpointCompletion ack s
  | .ownParkCompletion ack => Sys2Proof.Machine.execOwnParkCompletion ack s
  | .ownJoinCompletion ack => Sys2Proof.Machine.execOwnJoinCompletion ack s
  | .ownStateCompletion ack => Sys2Proof.Machine.execOwnStateCompletion ack s
  | .ownWakeCompletion ack => Sys2Proof.Machine.execOwnWakeCompletion ack s
  | .voidCompletion => Sys2Proof.Machine.execVoidCompletion s
  | .ageTickExpiry => Sys2Proof.Machine.execAgeTickExpiry s
  | .untrackedTimerExpiry => Sys2Proof.Machine.execUntrackedTimerExpiry s
  | .supplyTimerExpiry resource => Sys2Proof.Machine.execSupplyTimerExpiry resource s
  | .stateTimerExpiry => Sys2Proof.Machine.execStateTimerExpiry s
  | .refusalHoldOffExpiry resource => Sys2Proof.Machine.execRefusalHoldOffExpiry resource s
  | .spacingExpiry resource => Sys2Proof.Machine.execSpacingExpiry resource s
  | .settleTimerExpiry => Sys2Proof.Machine.execSettleTimerExpiry s
  | .censusTimerExpiry => Sys2Proof.Machine.execCensusTimerExpiry s
  | .selfSilenceExpiry => Sys2Proof.Machine.execSelfSilenceExpiry s
  | .quietTimerExpiry => Sys2Proof.Machine.execQuietTimerExpiry s
  | .wakeTimerExpiry => Sys2Proof.Machine.execWakeTimerExpiry s
  | .sampleTimerExpiry count => Sys2Proof.Machine.execSampleTimerExpiry count s
  | .wakeinActive => Sys2Proof.Machine.execWakeinActive s
  | .controlIntervalExpiry => Sys2Proof.Machine.execControlIntervalExpiry s
  | .switchTimerExpiry => Sys2Proof.Machine.execSwitchTimerExpiry s
  | .boostTimerExpiry => Sys2Proof.Machine.execBoostTimerExpiry s
  | .doorInputChange active => Sys2Proof.Machine.execDoorInputChange active s
  | .holdTimerExpiry => Sys2Proof.Machine.execHoldTimerExpiry s
  | .frostTimerExpiry => Sys2Proof.Machine.execFrostTimerExpiry s
  | .sensorSample sensor count => Sys2Proof.Machine.execSensorSample sensor count s
  | .periodEnd channel => Sys2Proof.Machine.execPeriodEnd channel s
  | .coolValveRestEnd => Sys2Proof.Machine.execCoolValveRestEnd s
  | .stepTimerExpiry endStop => Sys2Proof.Machine.execStepTimerExpiry endStop s
  | .deadTimerExpiry => Sys2Proof.Machine.execDeadTimerExpiry s
  | .dmpendActive => Sys2Proof.Machine.execDmpendActive s
  | .tachEdge => Sys2Proof.Machine.execTachEdge s
  | .stallTimerExpiry => Sys2Proof.Machine.execStallTimerExpiry s
  | .restartTimerExpiry => Sys2Proof.Machine.execRestartTimerExpiry s
  | .goodRunTimerExpiry => Sys2Proof.Machine.execGoodRunTimerExpiry s
  | .serviceByteReceived byte framingError => Sys2Proof.Machine.execServiceByteReceived byte framingError s
  | .interByteTimerExpiry => Sys2Proof.Machine.execInterByteTimerExpiry s
  | .answerSent => Sys2Proof.Machine.execAnswerSent s
  | .status message => Sys2Proof.Machine.execStatus message s
  | .entry message => Sys2Proof.Machine.execEntry message s
  | .capacity message => Sys2Proof.Machine.execCapacity message s
  | .setpointRead message => Sys2Proof.Machine.execSetpointRead message s
  | .setpointSet message => Sys2Proof.Machine.execSetpointSet message s
  | .offsetSet message => Sys2Proof.Machine.execOffsetSet message s
  | .events message => Sys2Proof.Machine.execEvents message s
  | .counters message => Sys2Proof.Machine.execCounters message s
  | .clearCounters message => Sys2Proof.Machine.execClearCounters message s
  | .cause message => Sys2Proof.Machine.execCause message s
  | .clearFault message => Sys2Proof.Machine.execClearFault message s
  | .park message => Sys2Proof.Machine.execPark message s
  | .mask message => Sys2Proof.Machine.execMask message s
  | .startBitRead => Sys2Proof.Machine.execStartBitRead s
  | .dominantBitInSeekingIdle endBit => Sys2Proof.Machine.execDominantBitInSeekingIdle endBit s
  | .onTimePassed channel => Sys2Proof.Machine.execOnTimePassed channel s

end Sys2Proof.Machine
end

