-- ==== Sys2Proof/Machine/Step.lean ====
section
/-! DEFINITION. One step: the command at the front of the queue, or, on an empty queue, the part's own clock (log entry 1). -/

namespace Sys2Proof.Machine

/-- The step on an empty queue: while held nothing happens; an expiry that is due is run; otherwise one clock unit passes. -/
def idle (s : State) : Host.Outcome State Fault Refusal :=
  if s.held then .next s
  else
    match s.nextExpiry with
    | some c => exec c s.drawnTwice
    | none => .next s.tick

/-- The step: the command at the front of the queue on the state with the queue's rest. -/
def step (s : State) : Host.Outcome State Fault Refusal :=
  match s.pending with
  | [] => idle s
  | c :: cs => exec c (s.setPending cs)

/-- The state with the command a word spells put at the front of its queue; unchanged where the word spells none. -/
def State.withFetchWord (s : State) (nbits w : Nat) : State :=
  match decodeTableWord nbits w with
  | some c => s.setPending (c :: s.pending)
  | none => s

end Sys2Proof.Machine
end

