-- ==== Sys2Proof/Machine/Outputs.lean ====
section
/-! DEFINITION. What the outside sees: drive pins (R146, R153), ATTN (R190), the configuration memory's pins and bytes (R175, 10.5), the answer on SVTX (R181, R183), the fault flag (R75) and the bits of an own frame (R65). -/

namespace Sys2Proof.Machine

/-- The drive and damper outputs, ATTN and the configuration memory's pins. True is driven, for ATTN asserted, for CFSEL selecting, for CFSCK and CFMOSI high. `none` is a pin on which bits pass, whose level changes within a step (file 00: timing below the level of bits is out of scope). -/
structure Pins where
  drblw : Bool
  drhtv : Bool
  drclv : Bool
  dmpopn : Bool
  dmpcls : Bool
  attn : Bool
  cfsel : Bool
  cfsck : Option Bool
  cfmosi : Option Bool
deriving DecidableEq, Repr

/-- 10.1, 10.5: the level of CFSCK and CFMOSI: low while the memory is deselected. -/
def ReadPhase.lineLevel (p : ReadPhase) : Option Bool := if p.selects then Option.none else some false

/-- R146, R153, R175, R190: the outputs of a state. While the part is held, ATTN is released. -/
def State.pins (s : State) : Pins :=
  { drblw := s.dcc.blower.on, drhtv := s.dcc.heat.on, drclv := s.dcc.cool.on
    dmpopn := decide (s.dcc.damper.motion = .opening)
    dmpcls := decide (s.dcc.damper.motion = .closing)
    attn := !s.held && decide (s.svc.fifo ≠ [])
    cfsel := s.cfg.phase.selects, cfsck := s.cfg.phase.lineLevel
    cfmosi := s.cfg.phase.lineLevel }

/-- R175: the bits the reader sends to the memory in its phase, most significant bit of each byte first. -/
def State.memoryBits (s : State) : List Bool := byteBits s.cfg.phase.sends

/-- R181, R183: the bytes of the answer being sent; none while SVTX is idle. -/
def State.answerBytes (s : State) (layout : AnswerLayout) : Option (List Byte) :=
  s.svc.answer.map fun a => a.bytes layout

/-- R75, R76: a fault flag is being driven. -/
def State.flagDriven (s : State) : Bool :=
  decide (s.lnk.state = .flag) && s.lnk.flagTimer.isSome

/-- R65, R67: the stuffed bits of the own frame on the wire. -/
def State.lineBits (s : State) : Option (List Bool) := s.lnk.wire.map fun f => f.lineBits s.ownAddress

end Sys2Proof.Machine
end

