-- ==== Sys2Proof/Safety.lean ====
section
/-! DEFINITION. The premises and invariants that the statements speak of: the running part between commands, the bounds of its stores, duties within caps, the quiet of a held part, frames a station may send. -/

namespace Sys2Proof.Machine

/-- The part runs and no event of an earlier command is waiting. -/
def State.Ready (s : State) : Prop := s.held = false ∧ s.raised = []

/-! ### Invariants -/

/-- R189: the event FIFO holds at most 16 records, the lost count is at most 255, and between commands no event waits. -/
def State.EventsBounded (s : State) : Prop :=
  s.svc.fifo.length ≤ 16 ∧ s.svc.lost ≤ 255 ∧ s.raised = []

/-- R1, R177: an image whose pinned list is at most four addresses, each once, without the own address. -/
def Image.PinnedOk (img : Image) : Prop :=
  img.pinned.length ≤ 4 ∧ img.pinned.Nodup ∧ img.address ∉ img.pinned

/-- R1, R4: at most twelve entries, the self entry's place included, each address at most once in the order and the own address never. -/
def State.TableBounded (s : State) : Prop :=
  s.stb.order.length ≤ 11 ∧ (s.stb.order.map (·.address)).Nodup ∧
    ∀ img, s.cfg.image = some img →
      img.PinnedOk ∧ ∀ e ∈ s.stb.order, e.address ≠ img.address

/-- R175: a read of the configuration block is under way. -/
def State.reading (s : State) : Bool := s.cfg.readTimer.isSome || decide (s.cfg.phase ≠ .none)

/-- R105, R175, R178: while the block is read the station is in CONFIG_READ, the link is OFF and no image is valid. -/
def State.ReadingBlank (s : State) : Prop :=
  s.reading = true → s.mbr.station = .configRead ∧ s.lnk.state = .off ∧ s.cfg.image = none

/-- R80, R84, R85: the confinement counters stay below 16, and are 0 outside JOINING and MEMBER. -/
def State.Confined (s : State) : Prop :=
  s.ReadingBlank ∧ s.lnk.txVoid < 16 ∧ s.lnk.rxFault < 16 ∧
    (s.mbr.station.drives = false → s.lnk.txVoid = 0 ∧ s.lnk.rxFault = 0)

/-- R40: every overdraw flag says whether the total exceeds the capacity. -/
def State.OverdrawAgrees (s : State) : Prop :=
  ∀ r, s.cjg.overdraw.get r = decide ((s.csr.capacity.get r).value < s.stb.total r)

/-- R40 with R25: the flags agree, and are clear while the block is read. -/
def State.OverdrawTrue (s : State) : Prop :=
  s.ReadingBlank ∧ s.OverdrawAgrees ∧ (s.reading = true → s.cjg.overdraw = .all false)

/-- R141: no cap allows more than the own committed draw, and the caps are 0 while the block is read. -/
def State.CapsWithinDraw (s : State) : Prop :=
  s.ReadingBlank ∧
    (s.reading = true → s.dcc.blower.cap = 0 ∧ s.dcc.heat.cap = 0 ∧ s.dcc.cool.cap = 0) ∧
    ∀ img e, s.cfg.image = some img → s.stb.self = some e →
      s.dcc.blower.cap ≤ e.committed.power * 1000 / img.blowerFull ∧
      s.dcc.heat.cap ≤ e.committed.heat * 1000 / img.heatRating ∧
      s.dcc.cool.cap ≤ e.committed.cool * 1000 / img.coolRating

/-- R145: a channel's duties are at most its cap. -/
def Channel.WithinCap (c : Channel) : Prop := c.active ≤ c.cap ∧ c.buffered ≤ c.cap

/-- R149, R164: a channel held off has both duties 0. -/
def Channel.Quiet (c : Channel) : Prop := c.active = 0 ∧ c.buffered = 0

/-- R145, R149, R161: every duty is within its cap, and a channel that does not follow its caps is off. -/
def State.DutiesBounded (s : State) : Prop :=
  s.ReadingBlank ∧
    ∀ ch, (s.dcc.channel ch).WithinCap ∧ (s.follows ch = false → (s.dcc.channel ch).Quiet)

/-- R171, 10.5: while a restart hold stands, the drive and damper outputs are off, the configuration memory is deselected with its lines low, the link is off with nothing on the wire, ATTN is released and no answer is being sent. -/
def State.QuietWhileHeld (s : State) : Prop :=
  s.held = true →
    s.pins = { drblw := false, drhtv := false, drclv := false, dmpopn := false, dmpcls := false
               attn := false, cfsel := false, cfsck := some false, cfmosi := some false } ∧
      s.lnk.state = .off ∧ s.lnk.wire = none ∧ s.svc.answer = none

/-! ### Frames a station may send (R70, R72) -/

/-- R70: the ranges of a STATE's fields. -/
def StateContent.InRange (c : StateContent) : Prop :=
  1 ≤ c.weight ∧ c.weight ≤ 15 ∧
    (∀ r, c.committed.get r ≤ 1023 ∧ c.demand.get r ≤ 1023 ∧ c.floor.get r ≤ 255 ∧
      c.capacity.get r ≤ 1023) ∧
    (∀ z, c.zone = some z → -32768 ≤ z.temp ∧ z.temp ≤ 32767) ∧
    160 ≤ c.setpointValue ∧ c.setpointValue ≤ 300 ∧ c.setpointEpoch ≤ 65535 ∧
    c.setpointOrigin ≤ 255 ∧ c.setpointOrigin ≠ 63 ∧
    ∀ o, c.outdoor = some o → -32768 ≤ o.temp ∧ o.temp ≤ 32767 ∧ o.age ≤ 255

/-- R70, R72: the content of a frame is in range for its sender. -/
def FrameBody.InRange (f : FrameBody) (source : Nat) : Prop :=
  match f with
  | .park _ w => w ≤ 1440
  | .wake => True
  | .supply _ vs => (∃ r, vs.get r ≠ none) ∧ ∀ r v, vs.get r = some v → v ≤ 1023
  | .release _ d => d ≤ 1023
  | .request _ _ before raise demand => 1 ≤ raise ∧ before + raise ≤ 1023 ∧ demand ≤ 1023
  | .setpoint v _ e o => 160 ≤ v ∧ v ≤ 300 ∧ e ≤ 65535 ∧ o = source
  | .state c => c.InRange
  | .join w => 1 ≤ w ∧ w ≤ 15

/-! ### Frames heard and sent -/

/-- A good, non-void frame of another station is at its end, in a station state whose blocks take frames (R5, R81). -/
def State.Hears (s : State) (kind : BitVec 3) (b : RxBody) (slots : Slots) (f : FrameBody) : Prop :=
  s.Ready ∧ s.lnk.state = .receiving ∧ s.mbr.station.takesFrames = true ∧
    checkGood kind b = true ∧ slots.fault = false ∧ b.source.toNat ≠ s.ownAddress ∧
    decodeFrame kind b = some f

/-- An own frame is being sent (R73). -/
def State.Sends (s : State) (f : FrameBody) : Prop :=
  s.Ready ∧ s.lnk.state = .transmitting ∧ s.lnk.wire = some f

/-- R81, R89: the link after a good, non-void frame of another station in a state that counts. -/
def Link.afterGood (l : Link) : Link :=
  { l.endFrame with counters := l.counters.bump .framesGood, rxFault := 0 }

/-- The Service Line stands but for its event FIFO and lost count. -/
def State.PortStands (s t : State) : Prop :=
  t.svc = { s.svc with fifo := t.svc.fifo, lost := t.svc.lost }

/-- The self entry stands, but that an airflow interlock found standing sets its HEAT and COOL demands to 0 (R142). -/
def State.SelfStands (s t : State) : Prop :=
  t.stb.self = s.stb.self ∨ t.stb.self = s.stb.self.map Entry.withoutValves

/-- What a frame of another station leaves as it was, when it is neither a PARK, nor a WAKE in park, nor a clash: station, supply, image, clock, damper, blower condition, the Zone Loop but its interlock, the receiver and its settings, pacing, and the own-request and veto records. -/
def State.SameStation (s t : State) : Prop :=
  t.mbr = s.mbr ∧ t.sup = s.sup ∧ t.cfg = s.cfg ∧ t.clock = s.clock ∧ t.pending = s.pending ∧
    t.dcc.damper = s.dcc.damper ∧ t.dcc.fan.condition = s.dcc.fan.condition ∧
    t.zlp = { s.zlp with interlock := t.zlp.interlock } ∧ s.PortStands t ∧
    t.txq = { s.txq with intents := t.txq.intents, replacements := t.txq.replacements } ∧
    t.cjg.ownRequest = s.cjg.ownRequest ∧ t.cjg.lastVeto = s.cjg.lastVeto ∧ s.SelfStands t

/-- What a change of the shed flag leaves as it was (R168). -/
def State.ShedFrame (s t : State) : Prop :=
  t.stb = { s.stb with self := t.stb.self } ∧ t.csr = s.csr ∧ t.lnk = s.lnk ∧ t.mbr = s.mbr ∧
    t.cfg = s.cfg ∧ t.clock = s.clock ∧ t.pending = s.pending ∧ s.PortStands t ∧
    t.dcc.damper = s.dcc.damper ∧ t.dcc.fan.condition = s.dcc.fan.condition ∧
    t.stb.self.map (·.committed) = s.stb.self.map (·.committed)

/-- R4, R6 to R12: the recency order and the untracked episode after a frame from a peer address that may make an entry. `made` is the content R8 gives a new entry, `kept` what the frame makes of a PRESENT one, and `f` the frame's outcome on either. -/
def State.Recorded (s t : State) (address : Nat) (made : Entry) (kept f : Entry → Entry) : Prop :=
  match s.stb.peer address with
  | some e =>
    t.stb.order =
        f (if e.present then { kept e with age := 0 } else { made with pinned := e.pinned }) ::
          dropAddress s.stb.order address ∧
      t.stb.untracked = s.stb.untracked ∧ t.stb.untrackedTimer = s.stb.untrackedTimer
  | none =>
    if s.stb.order.length < 11 then
      t.stb.order = f made :: s.stb.order ∧ t.stb.untracked = s.stb.untracked ∧
        t.stb.untrackedTimer = s.stb.untrackedTimer
    else
      match evictFrom s.stb.order with
      | some es =>
        t.stb.order = f made :: es ∧ t.stb.untracked = s.stb.untracked ∧
          t.stb.untrackedTimer = s.stb.untrackedTimer
      | none =>
        t.stb.order = s.stb.order ∧ t.stb.untracked = true ∧
          t.stb.untrackedTimer = some (s.clock + Config.untrackedTime)

/-- R6: a frame that makes no entry moves a PRESENT sender to the head with age 0 and leaves the order otherwise. -/
def State.Refreshed (s t : State) (address : Nat) : Prop :=
  t.stb = { s.stb with self := t.stb.self, order := t.stb.order } ∧
  t.stb.order =
    match s.stb.peer address with
    | some e =>
      if e.present then { e with age := 0 } :: dropAddress s.stb.order address else s.stb.order
    | none => s.stb.order

/-! ### Events, restarts, the loop's stop -/

/-- The record of an event raised now (R188). -/
def State.event (s : State) (k : EventKind) (peer : Option Nat) (r : Option Resource)
    (v : Option Nat) : EventRecord :=
  { kind := k, time := s.eventTime, peer := peer, resource := r, value := v }

/-- R189: the Service Line after these events, entered in some order. -/
def State.Reports (s t : State) (events : List EventRecord) : Prop :=
  ∃ es : List EventRecord, es.Perm events ∧ t.svc = es.foldl ServiceLine.post s.svc

/-- R7, R9, R13: the event of a frame that may make an entry for its sender: PEER_NEW where it makes one, TABLE_FULL where none can be made and no episode stands. -/
def State.seatEvents (s : State) (address : Nat) : List EventRecord :=
  match s.stb.peer address with
  | some e => if e.present then [] else [s.event .peerNew (some address) none none]
  | none =>
    if s.stb.order.length < 11 ∨ (evictFrom s.stb.order).isSome = true then
      [s.event .peerNew (some address) none none]
    else if s.stb.untracked then []
    else [s.event .tableFull (some address) none none]

/-- R40: the events of overdraw flags that go from `was` to `now` over a table and records: the excess at a begin, the new total at an end. -/
def State.flagEvents (s : State) (was now : Per Bool) (table : ShareTable) (records : Records) :
    List EventRecord :=
  resources.filterMap fun r =>
    if now.get r = was.get r then none
    else if now.get r then
      some (s.event .overdrawBegin none (some r)
        (some (table.total r - (records.capacity.get r).value)))
    else some (s.event .overdrawEnd none (some r) (some (table.total r)))

/-- R40: the events of the overdraw flags that differ after a frame. -/
def State.overdrawEvents (s t : State) : List EventRecord :=
  s.flagEvents s.cjg.overdraw t.cjg.overdraw t.stb t.csr

/-- R40: the events of the overdraw flags where the flags are re-evaluated over this table and these records before those after the frame (R58, log entry 5). -/
def State.overdrawThrough (s t : State) (table : ShareTable) (records : Records) :
    List EventRecord :=
  let mid := Per.of fun r => decide ((records.capacity.get r).value < table.total r)
  s.flagEvents s.cjg.overdraw mid table records ++ s.flagEvents mid t.cjg.overdraw t.stb t.csr

/-- R124, R126: the SENSOR_FAULT events of an interval, of the fault states that go from clear to set. -/
def State.faultEvents (s : State) (img : Image) : List EventRecord :=
  (if s.zlp.zone.bad && !s.zlp.zoneFault then
    [s.event .sensorFault none none (some 1)] else []) ++
  (if s.zlp.discharge.bad && !s.zlp.dischargeFault then
    [s.event .sensorFault none none (some 2)] else []) ++
  if img.outdoorPresent && s.zlp.outdoor.bad && !s.zlp.outdoorFault then
    [s.event .sensorFault none none (some 3)] else []

/-- R134: the DOOR_HOLD event of the first interval in MEMBER with the door input active. -/
def State.doorEvents (s : State) (img : Image) : List EventRecord :=
  if s.zlp.activeMode.isNone && img.doorEnabled && s.zlp.doorActive && decide (s.zlp.hold = .none)
  then [s.event .doorHold none none (some 1)] else []

/-- R92, R97: the queue after a RELEASE to 0 is asked for in each of these resources whose own draw is above 0. -/
def TransmitQueue.releasing (q : TransmitQueue) (e : Entry) (rs : List Resource) : TransmitQueue :=
  (rs.filter fun r => decide (0 < e.committed.get r)).foldl
    (fun q r => q.ask (.claim r (.release 0))) q

/-- R55: the events of the records that a SUPPLY makes LAPSED. -/
def State.lapseEvents (s : State) (sender : Nat) (fallback : Bool) (values : Per (Option Nat)) :
    List EventRecord :=
  resources.filterMap fun r =>
    match values.get r with
    | none => none
    | some v =>
      if fallback = true ∧ (s.csr.capacity.get r).state ≠ .lapsed then
        some (s.event .capacityLapse (some sender) (some r) (some v))
      else none

/-- R73, R94: a frame formed from an intent starts: its content is fixed, the intent is on the wire, and an own REQUEST is not judged yet (R28). -/
def State.Started (s t : State) (i : Intent) (f : FrameBody) : Prop :=
  t = ((s.setLnk { s.lnk with state := .transmitting, wire := some f, endRun := 7
                              vetoDriven := false, drivesFrom := none }).setTxq
      { s.txq with onWire := some i.key }).setCjg
    (match f with
     | .request r _ _ _ _ =>
       { s.cjg with ownRequest := s.cjg.ownRequest.set r
                      { s.cjg.ownRequest.get r with ownVerdict := .notJudged } }
     | _ => s.cjg)

/-- R44, R45, R94: an intent dropped at its start; a RELEASE dropped takes a held target with it. -/
def State.WithoutIntent (s t : State) (i : Intent) : Prop :=
  let u := s.setTxq { s.txq with intents := s.txq.intents.clear i.key }
  t = match i with
    | .claim r (.release _) =>
      if s.cjg.releaseTarget.get r = none then u
      else (u.setCjg { u.cjg with
        releaseTarget := u.cjg.releaseTarget.set r none }).recomputeCaps
    | _ => u

/-- R171: every block but the Supply Monitor and the Configuration Reader is as after any restart. -/
def State.AtRestart (s t : State) : Prop :=
  t.stb = .reset ∧ t.cjg = .reset ∧ t.csr = .reset ∧ t.lnk = .reset ∧ t.txq = .reset ∧
    t.mbr = .reset ∧ t.zlp = .reset s.zlp.doorActive ∧ t.dcc = .reset s.dcc.damper.endStop ∧
    t.svc = .reset ∧ t.raised = [] ∧ t.freeCount = s.freeCount ∧ t.pending = s.pending

/-- R171, R172, R175: a restart released with the Supply Monitor as `u`: every block starts, the time base is 0, the read begins, and cause and count follow the hold record. -/
def State.Released (s t : State) (u : Supply) : Prop :=
  s.AtRestart t ∧ t.clock = 0 ∧
    t.cfg = { image := none, phase := .readyPoll, readTimer := some Config.readTime
              reason := .none, offset := 0 } ∧
    t.sup = { u with
      level := .normal, recovery := none
      cause := if u.noted.vlog then .powerOn else if u.noted.cut then .supplyCut else .pin
      cutCount := if u.noted.vlog then 0
                  else if u.noted.cut then min 255 (u.cutCount + 1) else u.cutCount
      standing := ⟨false, false, false⟩, noted := ⟨false, false, false⟩ }

/-- No overdraw flag is set, no total exceeds its capacity, and no door hold stands: leaving MEMBER raises no event of its own. -/
def State.Calm (s : State) : Prop :=
  s.cjg.overdraw = .all false ∧ s.OverdrawAgrees ∧ s.zlp.hold = .none

/-- R125, R143: the Zone Loop stopped: no demand, no interval, switch, boost or hold timer, no door hold. -/
def ZoneLoop.Stopped (z : ZoneLoop) : Prop :=
  z.demand = .all 0 ∧ z.blowerDuty = 0 ∧ z.controlTimer = none ∧ z.switchTimer = none ∧
    z.boostTimer = none ∧ z.holdTimer = none ∧ z.hold = .none ∧ z.interlock = true

/-- R22, R25, R59, R101: table, judge, records and queue at the clear of PARK and ISOLATED, from the image. -/
def State.Cleared (s t : State) (img : Image) : Prop :=
  t.stb = .started img s.sup.shed s.stb.ageTimer ∧
    t.cjg = { s.cjg with overdraw := .all false, releaseTarget := .all none
                         ownRequest := .all .cleared } ∧
    t.csr = { s.csr with capacity := img.fallback.map CapacityRecord.start } ∧ t.txq = .reset

/-- R149: both duties of every channel 0 and every output off. -/
def Drives.AllOff (d : Drives) : Prop :=
  ∀ ch, (d.channel ch).active = 0 ∧ (d.channel ch).buffered = 0 ∧ (d.channel ch).on = false

/-- R116: the station parked at a depth, its timers set and the rest of the shares cleared. -/
def State.Parked (s t : State) (img : Image) (d : ParkDepth) (wakeAfter : Nat) : Prop :=
  t.mbr = { s.mbr with
      station := d.station, settleTimer := none, censusTimer := none, selfSilence := .stopped
      wakeTimer := if wakeAfter = 0 then none else some (s.clock + Config.minutes wakeAfter)
      sampleTimer := match d with
        | .light => some (s.clock + Config.sampleTime)
        | .deep => none
      parkDepth := some d, freezeWake := false } ∧
    s.Cleared t img ∧ t.zlp.Stopped ∧ t.dcc.AllOff ∧ t.dcc.damper.target = 0 ∧
    t.sup = s.sup ∧ t.cfg = s.cfg ∧ t.clock = s.clock ∧ t.pending = s.pending

/-- R107, R119 to R121: the station woken into SETTLING with the link as `l` before: the damper homes, the link follows the line, and the settle timer runs when the line is idle. -/
def State.Woken (s t : State) (w : WakeSource) (freeze : Bool) (l : Link) : Prop :=
  t.lnk = (if l.state = .off then { l with state := .seekingIdle, recessive := 0 } else l) ∧
    t.mbr = { s.mbr with
      station := .settling
      settleTimer := if l.state = .idle then some (s.clock + Config.settleTime) else none
      censusTimer := none, selfSilence := .stopped, wakeTimer := none, sampleTimer := none
      parkDepth := none, lastWake := w, freezeWake := freeze } ∧
    t.dcc = { s.dcc with damper := s.dcc.damper.home s.clock } ∧
    t.svc = s.svc.post (s.event .woken w.peer none (some w.value)) ∧
    t.stb = s.stb ∧ t.cjg = s.cjg ∧ t.csr = s.csr ∧ t.sup = s.sup ∧ t.cfg = s.cfg ∧
    t.clock = s.clock ∧ t.pending = s.pending

/-- R82, R89, R111: link and membership after a non-void own completion. -/
def State.Completed (s t : State) (ack : Bool) : Prop :=
  t.lnk = { s.lnk.endFrame with
      txVoid := 0, heard := if ack then .heard else .unheard
      counters := if s.mbr.station.counts then s.lnk.counters.bump .framesSent
                  else s.lnk.counters } ∧
    t.mbr = { s.mbr with
      selfSilence := if s.mbr.station.drives then .running (s.clock + Config.selfSilenceTime)
                     else s.mbr.selfSilence }

/-! ### The thirteen commands of the Service Line -/

/-- R181: each command's code with its row. -/
def serviceRows : List (Nat × (ServiceMessage → Instr)) :=
  [(1, .status), (2, .entry), (3, .capacity), (4, .setpointRead), (5, .setpointSet),
    (6, .offsetSet), (7, .events), (8, .counters), (9, .clearCounters), (10, .cause),
    (11, .clearFault), (12, .park), (13, .mask)]

/-- R182, R183: a message of the command is taken: the part runs, the receiver is not BUSY, the checksum is good and the station state lets the command through. -/
def State.Takes (s : State) (code : Nat) (m : ServiceMessage) : Prop :=
  s.Ready ∧ s.svc.rx ≠ .busy ∧ m.payload.length ≤ 8 ∧
    checksumGood (BitVec.ofNat 8 code) m.payload m.checksum = true ∧
    (s.mbr.station.notReady = true → code = 1 ∨ code = 10)

/-- R182, R183: the Service Line with an answer being sent from a clock on, its inter-byte timer started by the checksum byte. -/
def ServiceLine.answering (v : ServiceLine) (clock code : Nat) (status : AnswerStatus)
    (data : AnswerData) : ServiceLine :=
  { v with rx := .busy, length := 0, buffer := []
           interByte := some (clock + Config.interByteTime)
           answer := some { command := BitVec.ofNat 8 code, status := status, data := data } }

end Sys2Proof.Machine
end

