-- ==== Sys2Proof/Certificates/Slice0/Obligations.lean ====
section
/-! DEFINITION. The statements for the provers: the step, the invariants every step keeps, and file by file what the commands do by the rules of spec/. -/

section

open Sys2Proof Sys2Proof.Machine

/-! ### The step and the reset -/

/-- The command at the front of the queue runs on the state with the queue's rest. -/
def Obligations.FrontCommandRuns : Prop :=
  ∀ (s : State) (c : Instr) (cs : List Instr),
    s.pending = c :: cs → step s = exec c (s.setPending cs)

/-- The model's choice (log entries 1 and 4): on an empty queue a held part stays, a due expiry is run, and otherwise one clock unit passes. -/
def Obligations.EmptyQueueStep : Prop :=
  ∀ s : State, s.pending = [] →
    (s.held = true → step s = .next s) ∧
    (s.held = false → s.due = [] → step s = .next s.tick ∧ s.tick.clock = s.clock + 1) ∧
    (s.held = false → s.due ≠ [] → ∃ c ∈ s.due, step s = exec c s.drawnTwice)

/-- The contents that files 01 to 11 give every block right after the release of a restart. That State.reset is the release of a POWER_ON restart, with its cause, is the model's reading (log entry 7). -/
def Obligations.ResetContents : Prop :=
  State.reset.stb = { self := none, order := [], untracked := false, untrackedTimer := none
                      ageTimer := none } ∧
  State.reset.cjg = { overdraw := .all false, releaseTarget := .all none
                      ownRequest := .all { lastOutcome := .none, ownVerdict := .notJudged }
                      lastVeto := none } ∧
  State.reset.csr = { capacity := .all { value := 0, source := 0, state := .default
                                         timer := .stopped, adoption := false }
                      setpoint := none } ∧
  (let zero : Counter := { count := 0, overflow := false }
   State.reset.lnk = { State.reset.lnk with
     state := .off, wire := none, vetoDriven := false, flagTimer := none, txVoid := 0
     rxFault := 0, quietTimer := none, heard := .none
     counters := { framesSent := zero, framesGood := zero, checkFailures := zero
                   voidsSeen := zero, arbitrationLosses := zero, vetoesDriven := zero
                   requestsAccepted := zero, requestsRefused := zero, malformed := zero
                   peerLapses := zero } }) ∧
  (let empty : Intents := { park := none, wake := false, supplyLapse := false
                            claim := .all none, setpoint := none, state := false
                            join := false }
   State.reset.txq = { intents := empty, replacements := empty, onWire := none
                       step := .all .full, holdOff := .all none, spacing := .all none
                       stateTimer := none }) ∧
  State.reset.mbr = { station := .configRead, settleTimer := none, censusTimer := none
                      selfSilence := .stopped, wakeTimer := none, sampleTimer := none
                      parkDepth := none, lastWake := .none, freezeWake := false } ∧
  State.reset.zlp = { State.reset.zlp with
    zone := .absent, discharge := .absent, outdoor := .absent, zoneFault := false
    dischargeFault := false, outdoorFault := false, target := none, activeMode := none
    subMode := .none, block := none, integHeat := 0, integCool := 0, demand := .all 0
    controlTimer := none, switchTimer := none, boostTimer := none, hold := .none
    ceiling := .all none, holdTimer := none, frostTimer := none, interlock := true } ∧
  (∀ ch, State.reset.dcc.channel ch =
    { cap := 0, active := 0, buffered := 0, on := false, start := none }) ∧
  State.reset.dcc.damper = { State.reset.dcc.damper with
    homed := .unhomed, position := none, target := 0, motion := .idle, deadTimer := none
    stepTimer := none, faultLatch := false } ∧
  State.reset.dcc.fan =
    { condition := .running, stallCount := 0, stallTimer := none, restartTimer := none
      goodRunTimer := none, window := 0, lastWindow := 0, period := none, lastEdge := none
      faultLatch := false } ∧
  State.reset.sup = { State.reset.sup with
    level := .normal, recovery := none, cause := .powerOn, cutCount := 0
    standing := ⟨false, false, false⟩, noted := ⟨false, false, false⟩ } ∧
  State.reset.cfg = { image := none, phase := .readyPoll, readTimer := some Config.readTime
                      reason := .none, offset := 0 } ∧
  State.reset.svc = { rx := .hunt, length := 0, buffer := [], interByte := none, answer := none
                      fifo := [], lost := 0, mask := 0, offset := 0 } ∧
  State.reset.held = false ∧ State.reset.clock = 0 ∧ State.reset.pending = []

/-! ### Invariants -/

/-- Every invariant stated below holds right after reset. -/
def Obligations.InvariantsAtReset : Prop :=
  State.reset.EventsBounded ∧ State.reset.TableBounded ∧ State.reset.Confined ∧
    State.reset.DutiesBounded ∧ State.reset.QuietWhileHeld ∧ State.reset.OverdrawTrue ∧
    State.reset.CapsWithinDraw

/-- The event FIFO never holds more than 16 records, nor the lost count more than 255. -/
def Obligations.EventsStayBounded : Prop :=
  ∀ s s' : State, s.EventsBounded → step s = .next s' → s'.EventsBounded

/-- The table keeps at most twelve places, no address twice, and in the recency order never the own one. -/
def Obligations.TableStaysBounded : Prop :=
  ∀ s s' : State, s.TableBounded → step s = .next s' → s'.TableBounded

/-- The confinement counters stay below 16 and are 0 where the station does not drive the line. -/
def Obligations.StaysConfined : Prop :=
  ∀ s s' : State, s.Confined → step s = .next s' → s'.Confined

/-- No duty ever exceeds its cap, and a channel that is held off stays off. -/
def Obligations.DutiesStayBounded : Prop :=
  ∀ s s' : State, s.DutiesBounded → step s = .next s' → s'.DutiesBounded

/-- A part held in restart keeps its outputs off and the configuration memory deselected. -/
def Obligations.HeldPartStaysQuiet : Prop :=
  ∀ s s' : State, s.QuietWhileHeld → step s = .next s' → s'.QuietWhileHeld

/-- Every overdraw flag keeps saying whether the total exceeds the capacity, in a table whose addresses are distinct. -/
def Obligations.OverdrawStaysTrue : Prop :=
  ∀ s s' : State, s.TableBounded → s.OverdrawTrue → step s = .next s' → s'.OverdrawTrue

/-- No cap ever allows more than the station's own committed draw. -/
def Obligations.CapsStayWithinDraw : Prop :=
  ∀ s s' : State, s.CapsWithinDraw → step s = .next s' → s'.CapsWithinDraw

/-! ### Files 09 and 10: supply, restarts, the configuration block -/

/-- VLOG_FALL, RESETN_LOW and a SUPPLY_SAMPLE below 17.0 V hold a running part in restart. While it is held, VLOG, the pin and the samples move the Supply Monitor alone, DOOR_INPUT_CHANGE and DMPEND_ACTIVE report levels, and every other command changes nothing. What the loss of VLOG clears at the Supply Monitor is the model's reading (log entry 32), as are that the hold lasts from VLOG_RISE to the first sample (log entry 9) and that the two levels are known while held (log entry 8). -/
def Obligations.PartIsHeld : Prop :=
  (∀ s : State, s.held = false →
     (∃ t, exec .vlogFall s = .next t ∧ s.AtRestart t ∧ t.cfg = .reset ∧ t.clock = s.clock ∧
       t.held = true ∧
       t.sup = { s.sup with
         sample := none, recovery := none, cause := .none, cutCount := 0
         standing := ⟨true, false, false⟩, noted := { s.sup.noted with vlog := true } }) ∧
     (∃ t, exec .resetnLow s = .next t ∧ s.AtRestart t ∧ t.cfg = .reset ∧ t.clock = s.clock ∧
       t.held = true ∧
       t.sup = { s.sup with
         recovery := none, standing := ⟨false, true, false⟩
         noted := { s.sup.noted with pin := true } }) ∧
     ∀ v, v < 170 → ∃ t, exec (.supplySample v) s = .next t ∧ s.AtRestart t ∧ t.cfg = .reset ∧
       t.clock = s.clock ∧ t.held = true ∧
       t.sup = { s.sup with
         sample := some v, level := .cut, recovery := none, standing := ⟨false, false, true⟩
         noted := { s.sup.noted with cut := true } }) ∧
  ∀ s : State, s.held = true → s.raised = [] →
    exec .vlogFall s = .next (if s.sup.standing.vlog then s else s.setSup { s.sup with
      sample := none, cause := .none, cutCount := 0
      standing := { s.sup.standing with vlog := true, cut := false }
      noted := { s.sup.noted with vlog := true }, awaiting := false }) ∧
    exec .vlogRise s = .next (if s.sup.standing.vlog then s.setSup { s.sup with
      standing := { s.sup.standing with vlog := false }, awaiting := true } else s) ∧
    exec .resetnLow s = .next (if s.sup.standing.pin then s else s.setSup { s.sup with
      standing := { s.sup.standing with pin := true }
      noted := { s.sup.noted with pin := true } }) ∧
    (s.sup.standing.pin = false → exec .resetnHigh s = .next s) ∧
    (s.sup.standing.pin = true →
      s.sup.standing.vlog = true ∨ s.sup.standing.cut = true ∨ s.sup.awaiting = true →
      exec .resetnHigh s =
        .next (s.setSup { s.sup with standing := { s.sup.standing with pin := false } })) ∧
    (s.sup.standing.vlog = true → ∀ v, exec (.supplySample v) s = .next s) ∧
    (s.sup.standing.vlog = false → ∀ v,
      (v < 170 → exec (.supplySample v) s = .next (s.setSup { s.sup with
        sample := some v, awaiting := false, level := .cut, recovery := none
        standing := { s.sup.standing with cut := true }
        noted := { s.sup.noted with cut := true } })) ∧
      (170 ≤ v → v < 185 → s.sup.standing.cut = true ∨ s.sup.standing.pin = true →
        exec (.supplySample v) s =
          .next (s.setSup { s.sup with sample := some v, awaiting := false })) ∧
      (185 ≤ v → s.sup.standing.pin = true →
        exec (.supplySample v) s = .next (s.setSup { s.sup with
          sample := some (min 360 v), awaiting := false
          standing := { s.sup.standing with cut := false } }))) ∧
    (∀ active, exec (.doorInputChange active) s =
      .next (s.setZlp { s.zlp with doorActive := active })) ∧
    exec .dmpendActive s = .next (s.setDcc { s.dcc with
      damper := { s.dcc.damper with endStop := true } }) ∧
    ∀ c : Instr, c ≠ .vlogFall → c ≠ .vlogRise → c ≠ .resetnLow → c ≠ .resetnHigh →
      c ≠ .dmpendActive → (∀ v, c ≠ .supplySample v) →
      (∀ active, c ≠ .doorInputChange active) → exec c s = .next s

/-- What ends the last hold releases the restart, with its cause and count: the first sample of at least 17.0 V after VLOG_RISE, RESETN_HIGH, or a sample of at least 18.5 V in a cut. That the hold lasts from VLOG_RISE to the first sample is the model's reading (log entry 9). -/
def Obligations.RestartIsReleased : Prop :=
  ∀ s : State, s.raised = [] →
    (s.sup.standing = ⟨true, false, false⟩ → ∀ v, 170 ≤ v →
      ∃ u t, exec .vlogRise s = .next u ∧ u.held = true ∧ exec (.supplySample v) u = .next t ∧
        s.Released t { s.sup with sample := some (min 360 v), awaiting := false }) ∧
    (s.sup.standing = ⟨false, false, false⟩ → s.sup.awaiting = true → ∀ v, 170 ≤ v →
      ∃ t, exec (.supplySample v) s = .next t ∧
        s.Released t { s.sup with sample := some (min 360 v), awaiting := false }) ∧
    (s.sup.standing = ⟨false, true, false⟩ → s.sup.awaiting = false →
      ∃ t, exec .resetnHigh s = .next t ∧ s.Released t s.sup) ∧
    (s.sup.standing = ⟨false, false, true⟩ → ∀ v, 185 ≤ v →
      ∃ t, exec (.supplySample v) s = .next t ∧
        s.Released t { s.sup with sample := some (min 360 v), awaiting := false })

/-- SUPPLY_SAMPLE at 17.0 V or more in the running part, and RECOVERY_TIMER_EXPIRY: the latest sample, the recovery timer, the entry to WARN with SHED, its event and its forced release, and the end of WARN with its event. -/
def Obligations.SamplesAndRecoveryMoveLevel : Prop :=
  (∀ (s : State) (v : Nat), s.Ready → 170 ≤ v →
     (s.sup.level = .normal → 210 ≤ v → exec (.supplySample v) s =
       .next (s.setSup { s.sup with sample := some (min 360 v), awaiting := false })) ∧
     (s.sup.level = .warn → v < 225 → exec (.supplySample v) s =
       .next (s.setSup { s.sup with sample := some v, awaiting := false
                                    recovery := none })) ∧
     (s.sup.level = .warn → 225 ≤ v → exec (.supplySample v) s =
       .next (s.setSup { s.sup with
         sample := some (min 360 v), awaiting := false
         recovery := if s.sup.recovery.isSome then s.sup.recovery
                     else some (s.clock + Config.recoveryTime) })) ∧
     (s.sup.level = .normal → v < 210 → ∃ t, exec (.supplySample v) s = .next t ∧
       t.sup = { s.sup with sample := some v, awaiting := false, level := .warn } ∧
       s.ShedFrame t ∧ (∀ e, t.stb.self = some e → e.shed = true) ∧
       (s.OverdrawAgrees → t.svc =
         if s.cfg.image.isSome then s.svc.post (s.event .supplyWarn none none (some v))
         else s.svc) ∧
       ∀ img e, s.cfg.image = some img → s.stb.self = some e → s.isMember = true →
         e.floorOr0 .power < e.committed.power → s.txq.onWire ≠ some (.claim .power) →
         ∃ target, target ≤ e.floorOr0 .power ∧
           t.txq.intents.claim.power = some (.release target))) ∧
  ∀ s : State, s.Ready → s.sup.recovery.isSome = true →
    (s.sup.level ≠ .warn → exec .recoveryTimerExpiry s =
      .next (s.setSup { s.sup with recovery := none })) ∧
    (s.sup.level = .warn → ∃ t, exec .recoveryTimerExpiry s = .next t ∧
      t.sup = { s.sup with recovery := none, level := .normal } ∧ s.ShedFrame t ∧
      (∀ e, t.stb.self = some e → e.shed = false) ∧
      (s.OverdrawAgrees → t.svc =
        if s.cfg.image.isSome then s.svc.post (s.event .supplyOk none none s.sup.sample)
        else s.svc))

/-- READY_POLL_STATUS waits for the ready bit. CONFIG_READ_TIMEOUT, and CONFIG_READ_END with a bad block, end the read in CONFIG_FAULT: check value, version and fields are tested in that order, and the first that fails is the reason. While it polls the reader sends status commands; in the transfer it holds the memory selected and sends the read command with address 0; with no read under way the memory is deselected and its lines are low. That bytes 55 to 61 are one field is the model's reading (log entry 26), as is that a poll selects the memory within its own step (log entry 39). -/
def Obligations.ReadEndsInFault : Prop :=
  (∀ s : State,
     (s.cfg.phase = .readyPoll → s.memoryBits = [false, false, false, false, false, true, false,
       true]) ∧
     (s.cfg.phase = .transfer → s.pins.cfsel = true ∧ s.memoryBits =
       [false, false, false, false, false, false, true, true] ++ List.replicate 16 false) ∧
     (s.cfg.phase = .none → s.pins.cfsel = false ∧ s.pins.cfsck = some false ∧
       s.pins.cfmosi = some false ∧ s.memoryBits = [])) ∧
  (∀ s : State, s.Ready →
     (∀ b : Byte, s.cfg.phase = .readyPoll → b.getLsbD 0 = false →
       exec (.readyPollStatus b) s = .next (s.setCfg { s.cfg with phase := .transfer })) ∧
     (∀ b : Byte, b.getLsbD 0 = true → exec (.readyPollStatus b) s = .next s) ∧
     (s.cfg.readTimer.isSome = true → exec .configReadTimeout s =
       .next ((s.setCfg { s.cfg with image := none, phase := .none, readTimer := none
                                     reason := .timeout, offset := 0 }).setMbr
         { s.mbr with station := .configFault }))) ∧
  ∀ (s : State) (b : List Byte), s.Ready → s.cfg.phase = .transfer → b.length = 64 →
    ∀ (reason : FaultReason) (offset : Nat),
      (blockCheckGood b = false ∧ reason = .check ∧ offset = 0 ∨
        blockCheckGood b = true ∧ (byteAt b 0).toNat ≠ 1 ∧ reason = .version ∧ offset = 0 ∨
        blockCheckGood b = true ∧ (byteAt b 0).toNat = 1 ∧ reason = .range ∧
          firstBadField b = some offset) →
      exec (.configReadEnd b) s =
        .next ((s.setCfg { s.cfg with image := none, phase := .none, readTimer := none
                                      reason := reason, offset := offset }).setMbr
          { s.mbr with station := .configFault })

/-- CONFIG_READ_END with a good block: the image is handed on and the station enters SETTLING. -/
def Obligations.GoodBlockIsHandedOn : Prop :=
  ∀ (s : State) (b : List Byte), s.Ready → s.cfg.phase = .transfer → b.length = 64 →
    blockCheckGood b = true → (byteAt b 0).toNat = 1 → firstBadField b = none →
    ∃ t, exec (.configReadEnd b) s = .next t ∧
      t.cfg = { s.cfg with image := some (imageOf b), phase := .none, readTimer := none } ∧
      t.stb = { self := some (selfStart (imageOf b) s.sup.shed)
                order := (imageOf b).pinned.map pinnedStart, untracked := false
                untrackedTimer := none, ageTimer := some (s.clock + Config.ageTick) } ∧
      (∀ r, t.stb.total r = 0) ∧ t.stb.weightSum = (imageOf b).weight ∧
      (∀ r, t.csr.capacity.get r = { value := (imageOf b).fallback.get r, source := 0
                                     state := .default, timer := .stopped
                                     adoption := false }) ∧
      t.csr.setpoint = some { value := (imageOf b).defaultSetpoint
                              mode := (imageOf b).defaultMode, epoch := 0, origin := 0 } ∧
      t.mbr.station = .settling ∧
      (s.lnk.state = .off → t.lnk = { s.lnk with state := .seekingIdle, recessive := 0 }) ∧
      (∀ ch, (t.dcc.channel ch).start = some s.clock ∧
        (t.dcc.channel ch).active = (s.dcc.channel ch).active) ∧
      t.dcc.damper = s.dcc.damper.home s.clock ∧
      t.svc = (if s.sup.level = .warn then
          { s.svc with mask := (imageOf b).defaultMask }.post
            (s.event .supplyWarn none none s.sup.sample)
        else { s.svc with mask := (imageOf b).defaultMask }) ∧
      t.cjg = s.cjg ∧ t.txq = s.txq ∧ t.zlp = s.zlp ∧ t.sup = s.sup ∧ t.clock = s.clock ∧
      t.pending = s.pending

/-! ### File 04: bits, frames and the line -/

/-- A frame of any kind, every field at any value in its range, is read back by a receiver as it was sent: the stuffed bits give the bits of the frame, the fields give the content, and the check is good. That a STATE may carry a setpoint origin of 64 to 255 is the model's reading (log entry 15). -/
def Obligations.FramesReadBack : Prop :=
  (∀ bits : List Bool, destuff (stuff bits) = some bits) ∧
  ∀ (f : FrameBody) (source : Nat), 1 ≤ source → source ≤ 62 → f.InRange source →
    decodeFrame f.kind (f.sent source) = some f ∧ checkGood f.kind (f.sent source) = true ∧
    destuff (f.lineBits source) = some (frameBits f.kind (f.sent source).urgency
      (f.sent source).source (f.sent source).payload)

/-- LINK_IDLE, START_BIT_READ and DOMINANT_BIT_IN_SEEKING_IDLE: the link follows the line, and the settle time runs while the line is idle. That LINK_IDLE is accepted in FLAG, and what a dominant end bit leaves of the count, are the model's choices (log entries 10 and 11). -/
def Obligations.LinkFollowsTheLine : Prop :=
  ∀ s : State, s.Ready →
    (s.lnk.state = .seekingIdle ∨ s.lnk.state = .flag → exec .linkIdle s =
      .next ((s.setLnk { s.lnk with state := .idle, recessive := 11, flagTimer := none }).setMbr
        { s.mbr with settleTimer := if s.mbr.station = .settling
                                    then some (s.clock + Config.settleTime)
                                    else s.mbr.settleTimer })) ∧
    (s.lnk.state = .idle → exec .startBitRead s =
      .next ((s.setLnk { s.lnk with state := .receiving, endRun := 7
                                    vetoDriven := false, drivesFrom := none }).setMbr
        { s.mbr with settleTimer := none })) ∧
    (s.lnk.state = .seekingIdle → exec (.dominantBitInSeekingIdle none) s =
      .next (s.setLnk { s.lnk with recessive := 0 })) ∧
    ∀ k : Fin 7, s.lnk.state = .transmitting ∨ s.lnk.state = .receiving →
      exec (.dominantBitInSeekingIdle (some k)) s =
        .next (s.setLnk { s.lnk with endRun := 6 - k.val })

/-- The queue offers its intent of lowest arbitration value, claims of equal value in the order COOL, HEAT, POWER. -/
def Obligations.LowestIntentIsOffered : Prop :=
  ∀ (q : Intents) (address : Nat),
    (q.offered address = none ↔ q.held = []) ∧
    ∀ i, q.offered address = some i →
      i.value address = i.urgency * 512 + i.kindCode * 64 + address ∧
      ∃ before after, q.held = before ++ i :: after ∧
        (∀ j ∈ before, i.value address < j.value address) ∧
        ∀ j ∈ after, i.value address ≤ j.value address

/-- What each intent forms at its start, and when it is dropped (R95). -/
def Obligations.FramesFormed : Prop :=
  ∀ (s : State) (e : Entry), s.stb.self = some e →
    (∀ r c, s.form (.claim r (.request c)) =
      if s.mbr.station = .member ∧ s.cjg.releaseTarget.get r = none ∧
          e.committed.get r < e.demandOr r then
        some (.request r c (e.committed.get r)
          (match s.txq.step.get r with
           | .full => e.demandOr r - e.committed.get r
           | .atMost n => min (e.demandOr r - e.committed.get r) n) (e.demandOr r))
      else none) ∧
    (∀ r target, s.form (.claim r (.release target)) =
      let d := match s.cjg.releaseTarget.get r with
        | none => target
        | some held => min target held
      if (s.mbr.station = .joining ∨ s.mbr.station = .member) ∧ d < e.committed.get r then
        some (.release r d)
      else none) ∧
    (∀ p, s.form (.park p) =
      if s.mbr.station = .member then some (.park p.depth p.wakeAfter) else none) ∧
    s.form .wake =
      (if s.mbr.station = .joining ∨ s.mbr.station = .member then some .wake else none) ∧
    s.form .join = (if s.mbr.station = .joining then some (.join e.weightOr1) else none) ∧
    (∀ p rec, s.csr.setpoint = some rec → s.form (.setpoint p) =
      if s.mbr.station = .joining ∨ s.mbr.station = .member then
        some (.setpoint p.value p.mode ((rec.epoch + 1) % 65536) s.ownAddress)
      else none) ∧
    (∀ rec, s.csr.setpoint = some rec → s.form .state =
      if s.mbr.station = .joining ∨ s.mbr.station = .member then
        some (.state (s.stateContent e rec))
      else none) ∧
    ∀ img, s.cfg.image = some img → s.form .supplyLapse =
      if s.mbr.station = .member ∧ ∃ r ∈ resources, (s.csr.capacity.get r).state = .fresh ∧
          (s.csr.capacity.get r).timer = .expired then
        some (.supply true (Per.of fun r =>
          if (s.csr.capacity.get r).state = .fresh ∧ (s.csr.capacity.get r).timer = .expired
          then some (img.fallback.get r) else none))
      else none

/-- TRANSMISSION_START: the lowest intent that qualifies goes on the wire. An intent that does not is dropped, a held release target with a dropped RELEASE, and the next intent is formed at the same idle. An empty queue leaves the link IDLE. -/
def Obligations.TransmissionStarts : Prop :=
  ∀ s : State, s.Ready → s.lnk.state = .idle → s.mbr.station.drives = true →
    (s.txq.intents.offered s.ownAddress = none → exec .transmissionStart s = .next s) ∧
    (∀ i f, s.txq.intents.offered s.ownAddress = some i → s.form i = some f →
      ∃ t, exec .transmissionStart s = .next t ∧ s.Started t i f) ∧
    ∀ i e u, s.txq.intents.offered s.ownAddress = some i → s.form i = none →
      s.stb.self = some e → s.WithoutIntent u i →
      (u.txq.intents.offered u.ownAddress = none → exec .transmissionStart s = .next u) ∧
      ∀ j f, u.txq.intents.offered u.ownAddress = some j → u.form j = some f →
        ∃ t, exec .transmissionStart s = .next t ∧ u.Started t j f

/-- Short of the sixteenth: ARBITRATION_LOST, BIT_ERROR and VOID_COMPLETION, where the intent stays and a void counts; FRAMING_FAILURE and a VOID_ARRIVAL whose check failed here, where the receiver's own detections count and another station's flag does not. A station that left LINK_QUIET within the frame FAULTed it when the FAULT slot began after that; by the clock, which is the model's choice (log entry 42), that slot begins nine bit periods before the arrival. When the receiver and the transmitter drive a flag is the model's reading (log entry 21). -/
def Obligations.FailuresCount : Prop :=
  (∀ (s : State) (f : FrameBody), s.Sends f →
     exec .arbitrationLost s =
       .next ((s.setLnk { s.lnk with
           state := .receiving, wire := none, vetoDriven := false
           counters := if s.mbr.station.counts then s.lnk.counters.bump .arbitrationLosses
                       else s.lnk.counters }).setTxq s.txq.returned) ∧
     (s.mbr.station.drives = true → s.lnk.txVoid + 1 < 16 →
       exec .bitError s =
         .next ((s.setLnk { s.lnk with
             state := .flag, recessive := 0, endRun := 7, wire := none, vetoDriven := false
             flagTimer := some (s.clock + Config.flagTime), txVoid := s.lnk.txVoid + 1
             counters := s.lnk.counters.bump .voidsSeen }).setTxq s.txq.returned) ∧
       exec .voidCompletion s =
         .next ((s.setLnk { s.lnk with
             state := .seekingIdle, recessive := s.lnk.endRun, endRun := 7, wire := none
             vetoDriven := false, flagTimer := none, txVoid := s.lnk.txVoid + 1
             counters := s.lnk.counters.bump .voidsSeen }).setTxq s.txq.returned)) ∧
     (s.mbr.station = .linkQuiet → exec .voidCompletion s =
       .next ((s.setLnk { s.lnk with
           state := .seekingIdle, recessive := s.lnk.endRun, endRun := 7, wire := none
           vetoDriven := false, flagTimer := none
           counters := s.lnk.counters.bump .voidsSeen }).setTxq s.txq.returned))) ∧
  ∀ s : State, s.Ready → s.lnk.state = .receiving → s.mbr.station.drives = true →
    (∀ cause, cause = .stuffRecessive ∨ cause = .lengthAbove40 → s.lnk.rxFault + 1 < 16 →
      exec (.framingFailure cause) s =
        .next (s.setLnk { s.lnk with
          state := .flag, recessive := 0, endRun := 7, wire := none, vetoDriven := false
          flagTimer := some (s.clock + Config.flagTime), rxFault := s.lnk.rxFault + 1
          counters := (s.lnk.counters.bump .voidsSeen).bump .checkFailures })) ∧
    exec (.framingFailure .stuffDominant) s =
      .next (s.setLnk { s.lnk with
        state := .flag, recessive := 0, endRun := 7, wire := none, vetoDriven := false
        flagTimer := some (s.clock + Config.flagTime)
        counters := s.lnk.counters.bump .voidsSeen }) ∧
    ∀ kind b slots, checkGood kind b = false →
      ((∀ t, s.lnk.drivesFrom = some t → t + Config.bitPeriods 9 ≤ s.clock) →
        s.lnk.rxFault + 1 < 16 →
        s.slotsDriven kind b = { ack := false, fault := true, veto := s.lnk.vetoDriven } ∧
        exec (.voidArrival kind b slots) s =
          .next (s.setLnk { s.lnk.endFrame with
            rxFault := s.lnk.rxFault + 1
            counters := (s.lnk.counters.bump .checkFailures).bump .voidsSeen })) ∧
      ∀ t, s.lnk.drivesFrom = some t → s.clock < t + Config.bitPeriods 9 →
        s.slotsDriven kind b = { ack := false, fault := false, veto := s.lnk.vetoDriven } ∧
        exec (.voidArrival kind b slots) s =
          .next (s.setLnk { s.lnk.endFrame with
            counters := if slots.fault
                        then (s.lnk.counters.bump .checkFailures).bump .voidsSeen
                        else s.lnk.counters.bump .checkFailures })

/-- The sixteenth void or faulted frame takes the station to LINK_QUIET: draws zeroed, intents discarded, adoption pending, the loop stopped, 10 s of quiet. That the stopped loop has blower duty 0 and the interlock standing is the model's reading (log entry 23), here and at the other ways out of MEMBER below. -/
def Obligations.SixteenthEntersLinkQuiet : Prop :=
  ∀ (s : State) (c : Instr) (value : Nat), s.Ready → s.mbr.station.drives = true →
    (s.lnk.state = .transmitting ∧ s.lnk.wire.isSome = true ∧ s.lnk.txVoid = 15 ∧
        (c = .bitError ∨ c = .voidCompletion) ∧ value = 1 ∨
      s.lnk.state = .receiving ∧ s.lnk.rxFault = 15 ∧ value = 2 ∧
        (c = .framingFailure .stuffRecessive ∨
          ∃ kind b slots, (s.slotsDriven kind b).fault = true ∧ c = .voidArrival kind b slots)) →
    ∃ t, exec c s = .next t ∧ t.mbr = { s.mbr with
        station := .linkQuiet, settleTimer := none, censusTimer := none
        selfSilence := .stopped } ∧
      t.lnk.txVoid = 0 ∧ t.lnk.rxFault = 0 ∧
      t.lnk.quietTimer = some (s.clock + Config.quietTime) ∧ t.txq = .reset ∧
      t.stb = { s.stb with self := s.stb.self.map Entry.zeroed } ∧
      t.cjg.releaseTarget = .all none ∧ t.cjg.ownRequest = s.cjg.ownRequest ∧
      t.cjg.lastVeto = s.cjg.lastVeto ∧
      (∀ r, t.csr.capacity.get r = { s.csr.capacity.get r with adoption := true }) ∧
      t.csr.setpoint = s.csr.setpoint ∧ t.zlp.Stopped ∧
      (s.Calm → t.svc = s.svc.post (s.event .linkQuiet none none (some value))) ∧
      t.sup = s.sup ∧ t.cfg = s.cfg ∧ t.clock = s.clock ∧ t.pending = s.pending

/-- MALFORMED_ARRIVAL and VOID_ARRIVAL of a frame whose check is good: counted, and handed to no block. -/
def Obligations.UnusedArrivalsAreCounted : Prop :=
  ∀ (s : State) (kind : BitVec 3) (b : RxBody) (slots : Slots),
    s.Ready → s.lnk.state = .receiving → s.mbr.station.counts = true →
    checkGood kind b = true →
    (decodeFrame kind b = none → slots.fault = false → b.source.toNat ≠ s.ownAddress →
      exec (.malformedArrival kind b slots) s =
        .next (s.setLnk { s.lnk.endFrame with
          rxFault := 0
          counters := (s.lnk.counters.bump .malformed).bump .framesGood })) ∧
    (decodeFrame kind b ≠ none → slots.fault = true →
      exec (.voidArrival kind b slots) s =
        .next (s.setLnk { s.lnk.endFrame with
          counters := s.lnk.counters.bump .voidsSeen }))

/-- ADDRESS_CLASH: a good frame of the own address isolates the station. That the damper's target 0 is recorded only is the model's reading (log entry 31). -/
def Obligations.AddressClashIsolates : Prop :=
  ∀ (s : State) (kind : BitVec 3) (b : RxBody) (slots : Slots) (img : Image),
    s.Ready → s.lnk.state = .receiving → s.mbr.station.counts = true →
    s.cfg.image = some img → checkGood kind b = true → slots.fault = false →
    b.source.toNat = img.address → decodeFrame kind b ≠ none →
    ∃ t, exec (.addressClash kind b slots) s = .next t ∧
      t.mbr = { s.mbr with
        station := .isolated, settleTimer := none, censusTimer := none
        selfSilence := .stopped, wakeTimer := none, sampleTimer := none, parkDepth := none
        freezeWake := false } ∧
      t.lnk = { s.lnk.afterGood with
        state := .off, recessive := 0, txVoid := 0, rxFault := 0, quietTimer := none } ∧
      s.Cleared t img ∧ t.zlp.Stopped ∧ t.dcc.AllOff ∧ t.dcc.damper.target = 0 ∧
      (s.Calm → t.svc =
        s.svc.post (s.event .addressClash (some img.address) none (some kind.toNat))) ∧
      t.sup = s.sup ∧ t.cfg = s.cfg ∧ t.clock = s.clock ∧ t.pending = s.pending

/-! ### Files 01, 02, 03: frames of other stations -/

/-- The evicted entry is the candidate nearest the tail of the recency order, and none is evicted where there is no candidate. -/
def Obligations.EvictionTakesTheTail : Prop :=
  ∀ es : List Entry,
    (evictFrom es = none ↔
      ∀ e ∈ es, ¬(e.pinned = false ∧ e.committed = .all 0)) ∧
    ∀ es', evictFrom es = some es' → ∃ before e after, es = before ++ e :: after ∧
      es' = before ++ after ∧ e.pinned = false ∧ e.committed = .all 0 ∧
      ∀ x ∈ after, ¬(x.pinned = false ∧ x.committed = .all 0)

/-- The fair shares of the counted entries never sum to more than the capacity. -/
def Obligations.FairSharesFit : Prop :=
  ∀ (t : ShareTable) (capacity : Nat),
    (t.counted.map fun e => fairShare capacity e.weightOr1 t.weightSum).sum ≤ capacity

/-- The six tests on a REQUEST of any sender, the own station included: it passes exactly when no episode, no place for an entry, no mismatch, no overdraw, no limit and no fairness stands against it, and the first that does is the test recorded. -/
def Obligations.SixTestsInOrder : Prop :=
  ∀ (s : State) (c : Claim),
    let entry := if c.sender = s.ownAddress then s.stb.self else s.stb.peer c.sender
    let counted := entry.filter (·.present)
    let capacity := (s.csr.capacity.get c.resource).value
    let untracked := s.stb.untracked = true
    let noEntry := c.sender ≠ s.ownAddress ∧ entry = none ∧ 11 ≤ s.stb.order.length ∧
      ∀ x ∈ s.stb.order, ¬(x.pinned = false ∧ x.committed = .all 0)
    let mismatch := ∃ e, counted = some e ∧ e.committed.get c.resource ≠ c.drawBefore
    let overdraw := s.cjg.overdraw.get c.resource = true
    let limit := if c.claimClass = .protection then capacity else capacity - capacity / 8
    let projected := s.stb.total c.resource + (if counted.isSome then 0 else c.drawBefore)
    let overLimit := limit < projected + c.raise
    let weight := (entry.map Entry.weightOr1).getD 1
    let w := s.stb.weightSum + (if counted.isSome then 0 else weight)
    let floor := (entry.map (·.floorOr0 c.resource)).getD 0
    let unfair := c.claimClass = .comfort ∧
      max (capacity * weight / w) floor < c.drawBefore + c.raise ∧
      ∃ x ∈ s.stb.counted, x.address ≠ c.sender ∧
        x.committed.get c.resource < x.demandOr c.resource
    (s.judge c = some 1 ↔ untracked) ∧
    (s.judge c = some 2 ↔ ¬untracked ∧ noEntry) ∧
    (s.judge c = some 3 ↔ ¬untracked ∧ ¬noEntry ∧ mismatch) ∧
    (s.judge c = some 4 ↔ ¬untracked ∧ ¬noEntry ∧ ¬mismatch ∧ overdraw) ∧
    (s.judge c = some 5 ↔ ¬untracked ∧ ¬noEntry ∧ ¬mismatch ∧ ¬overdraw ∧ overLimit) ∧
    (s.judge c = some 6 ↔
      ¬untracked ∧ ¬noEntry ∧ ¬mismatch ∧ ¬overdraw ∧ ¬overLimit ∧ unfair) ∧
    (s.judge c = none ↔
      ¬untracked ∧ ¬noEntry ∧ ¬mismatch ∧ ¬overdraw ∧ ¬overLimit ∧ ¬unfair)

/-- REQUEST_JUDGED in MEMBER: a failing test drives VETO in its slot, two bit periods on, and is recorded and counted; the own verdict is kept for an own frame. That they are made at the judgement, and what they were is kept until the slot, is the model's reading (log entry 42). -/
def Obligations.RequestIsJudged : Prop :=
  ∀ (s : State) (r : Resource) (cl : ClaimClass) (before raise d : Nat),
    s.Ready → s.mbr.station = .member →
    (∀ b, s.lnk.state = .receiving → checkGood 4#3 b = true →
      decodeFrame 4#3 b = some (.request r cl before raise d) →
      (s.judge ⟨b.source.toNat, r, cl, before, raise⟩ = none →
        exec (.requestJudged (some b)) s =
          .next (s.setLnk { s.lnk with vetoDriven := false })) ∧
      ∀ test, s.judge ⟨b.source.toNat, r, cl, before, raise⟩ = some test →
        exec (.requestJudged (some b)) s =
          .next ((s.setCjg { s.cjg with lastVeto := some ⟨r, b.source.toNat, test⟩ }).setLnk
            { s.lnk with vetoDriven := true
                         vetoNote := ⟨s.clock + Config.bitPeriods 2,
                           s.lnk.counters.vetoesDriven, s.cjg.lastVeto⟩
                         counters := s.lnk.counters.bump .vetoesDriven })) ∧
    (s.lnk.state = .transmitting → s.lnk.wire = some (.request r cl before raise d) →
      (s.judge ⟨s.ownAddress, r, cl, before, raise⟩ = none →
        exec (.requestJudged none) s =
          .next ((s.setLnk { s.lnk with vetoDriven := false }).setCjg { s.cjg with
            ownRequest := s.cjg.ownRequest.set r
              { s.cjg.ownRequest.get r with ownVerdict := .passed } })) ∧
      ∀ test, s.judge ⟨s.ownAddress, r, cl, before, raise⟩ = some test →
        exec (.requestJudged none) s =
          .next ((s.setLnk { s.lnk with vetoDriven := true
                                        vetoNote := ⟨s.clock + Config.bitPeriods 2,
                                          s.lnk.counters.vetoesDriven, s.cjg.lastVeto⟩
                                        counters := s.lnk.counters.bump .vetoesDriven }).setCjg
            { s.cjg with
              lastVeto := some ⟨r, s.ownAddress, test⟩
              ownRequest := s.cjg.ownRequest.set r
                { s.cjg.ownRequest.get r with ownVerdict := .failed test } }))

/-- REQUEST_ARRIVAL and RELEASE_ARRIVAL: the sender's entry is refreshed or made, and takes the outcome, or the new draw. PEER_NEW or TABLE_FULL and the events of the overdraw flags are reported, in an order log entry 4 leaves free, here and below. -/
def Obligations.ClaimsArrive : Prop :=
  (∀ (s : State) (b : RxBody) (slots : Slots) (r : Resource) (cl : ClaimClass)
     (before raise d : Nat),
     s.Hears 4#3 b slots (.request r cl before raise d) →
     ∃ t, exec (.requestArrival b slots) s = .next t ∧ t.lnk = s.lnk.afterGood ∧
       t.csr = s.csr ∧ s.SameStation t ∧ t.OverdrawAgrees ∧
       t.stb.ageTimer = s.stb.ageTimer ∧
       s.Reports t (s.seatEvents b.source.toNat ++ s.overdrawEvents t) ∧
       s.Recorded t b.source.toNat
         { Entry.bare b.source.toNat with committed := (Per.all 0).set r before } id fun e =>
         { e with
           committed := if slots.veto = false ∧ s.lnk.vetoDriven = false
                        then e.committed.set r (min 1023 (e.committed.get r + raise))
                        else e.committed
           demand := e.demand.set r (some d), lastClass := e.lastClass.set r (some cl) }) ∧
  ∀ (s : State) (b : RxBody) (slots : Slots) (r : Resource) (newDraw : Nat),
    s.Hears 3#3 b slots (.release r newDraw) →
    ∃ t, exec (.releaseArrival b slots) s = .next t ∧ t.lnk = s.lnk.afterGood ∧
      t.csr = s.csr ∧ s.SameStation t ∧ t.OverdrawAgrees ∧
      t.stb.ageTimer = s.stb.ageTimer ∧
      s.Reports t (s.seatEvents b.source.toNat ++ s.overdrawEvents t) ∧
      s.Recorded t b.source.toNat
        { Entry.bare b.source.toNat with committed := (Per.all 0).set r newDraw } id fun e =>
        { e with committed := e.committed.set r newDraw }

/-- STATE_ARRIVAL: the sender's entry takes the carried fields, pending adoptions take the carried capacity, and a newer setpoint is adopted, with their events. Whether table or capacity acts first at an adoption is the model's reading (log entry 5). -/
def Obligations.StateArrives : Prop :=
  ∀ (s : State) (b : RxBody) (slots : Slots) (c : StateContent) (p : SetpointRecord),
    s.Hears 6#3 b slots (.state c) → s.csr.setpoint = some p →
    ∃ t, exec (.stateArrival b slots) s = .next t ∧ t.lnk = s.lnk.afterGood ∧
      s.SameStation t ∧ t.OverdrawAgrees ∧ t.stb.ageTimer = s.stb.ageTimer ∧
      (∀ r, t.csr.capacity.get r =
        if c.member = true ∧ (s.csr.capacity.get r).adoption = true then
          { value := c.capacity.get r, source := b.source.toNat, state := c.capacityState.get r
            timer := if c.capacityState.get r = .fresh
                     then .running (s.clock + Config.supplyTime) else .stopped
            adoption := false }
        else s.csr.capacity.get r) ∧
      t.csr.setpoint = some (if newerEpoch c.setpointEpoch p.epoch then
        { value := c.setpointValue, mode := c.setMode, epoch := c.setpointEpoch
          origin := c.setpointOrigin } else p) ∧
      (∃ crossed, s.Reports t (s.seatEvents b.source.toNat ++
          (if newerEpoch c.setpointEpoch p.epoch then
            [s.event .setpointAdopted (some c.setpointOrigin) none (some c.setpointValue)]
          else []) ++ crossed) ∧
        (crossed = s.overdrawEvents t ∨
          c.member = true ∧ (∃ r, (s.csr.capacity.get r).adoption = true) ∧
            (crossed = s.overdrawThrough t t.stb s.csr ∨
              crossed = s.overdrawThrough t s.stb t.csr))) ∧
      s.Recorded t b.source.toNat ((Entry.bare b.source.toNat).withState c)
        (fun e => e.withState c) id

/-- JOIN_ARRIVAL: the sender's entry is reset to what a JOIN makes, and a member answers with a STATE; its events. -/
def Obligations.JoinArrives : Prop :=
  ∀ (s : State) (b : RxBody) (slots : Slots) (weight : Nat),
    s.Hears 7#3 b slots (.join weight) →
    ∃ t, exec (.joinArrival b slots) s = .next t ∧ t.lnk = s.lnk.afterGood ∧
      t.csr = s.csr ∧ s.SameStation t ∧ t.OverdrawAgrees ∧
      t.stb.ageTimer = s.stb.ageTimer ∧
      s.Reports t (s.seatEvents b.source.toNat ++ s.overdrawEvents t) ∧
      (s.isMember = true → s.txq.onWire ≠ some .state → t.txq.intents.state = true) ∧
      s.Recorded t b.source.toNat { Entry.bare b.source.toNat with weight := some weight }
        (fun e => { Entry.bare e.address with weight := some weight, pinned := e.pinned }) id

/-- SUPPLY_ARRIVAL: the named records take their values, FRESH with 10 s or LAPSED, the latter with CAPACITY_LAPSE; the others stand. -/
def Obligations.SupplyArrives : Prop :=
  ∀ (s : State) (b : RxBody) (slots : Slots) (fallback : Bool) (values : Per (Option Nat)),
    s.Hears 2#3 b slots (.supply fallback values) →
    ∃ t, exec (.supplyArrival b slots) s = .next t ∧ t.lnk = s.lnk.afterGood ∧
      s.SameStation t ∧ t.OverdrawAgrees ∧ s.Refreshed t b.source.toNat ∧
      t.csr.setpoint = s.csr.setpoint ∧
      s.Reports t (s.lapseEvents b.source.toNat fallback values ++ s.overdrawEvents t) ∧
      ∀ r, t.csr.capacity.get r = match values.get r with
        | none => s.csr.capacity.get r
        | some v =>
          { value := v, source := b.source.toNat
            state := if fallback then .lapsed else .fresh
            timer := if fallback then .stopped else .running (s.clock + Config.supplyTime)
            adoption := false }

/-- SETPOINT_ARRIVAL adopts an equal or newer epoch with its event; WAKE_ARRIVAL outside park only refreshes its sender. Nothing else changes. -/
def Obligations.SetpointAndWakeArrive : Prop :=
  ∀ (s : State) (b : RxBody) (slots : Slots),
    (∀ value mode epoch origin p,
      s.Hears 5#3 b slots (.setpoint value mode epoch origin) → s.csr.setpoint = some p →
      ∃ t, exec (.setpointArrival b slots) s = .next t ∧ s.Refreshed t b.source.toNat ∧
        t.stb.self = s.stb.self ∧
        (newerEpoch epoch p.epoch = true ∨ epoch = p.epoch →
          t = (((s.setStb t.stb).setLnk s.lnk.afterGood).setCsr
            { s.csr with setpoint := some ⟨value, mode, epoch, origin⟩ }).setSvc
            (s.svc.post (s.event .setpointAdopted (some origin) none (some value)))) ∧
        (¬(newerEpoch epoch p.epoch = true ∨ epoch = p.epoch) →
          t = (s.setStb t.stb).setLnk s.lnk.afterGood)) ∧
    (s.Hears 1#3 b slots .wake →
      ∃ t, exec (.wakeArrival b slots) s = .next t ∧ s.Refreshed t b.source.toNat ∧
        t.stb.self = s.stb.self ∧ t = (s.setStb t.stb).setLnk s.lnk.afterGood)

/-! ### File 05: the Transmit Queue -/

/-- Asking for an intent: the combining table, and the pending replacement while the key's intent is on the wire, which it is from its start to its outcome. -/
def Obligations.AskedIntentsCombine : Prop :=
  (∀ (q : TransmitQueue) (i : Intent), q.onWire = some i.key →
    q.ask i = { q with replacements := (q.ask i).replacements } ∧
      (q.ask i).replacements = q.replacements.combine i) ∧
  (∀ (q : TransmitQueue) (i : Intent), q.onWire ≠ some i.key →
    q.ask i = { q with intents := (q.ask i).intents } ∧
      (q.ask i).intents = q.intents.combine i) ∧
  (∀ (q : Intents) (r : Resource) (i : ClaimIntent), q.claim.get r = none →
    (q.combine (.claim r i)).claim.get r = some i) ∧
  (∀ (q : Intents) (r : Resource) (c c' : ClaimClass), q.claim.get r = some (.request c) →
    (q.combine (.claim r (.request c'))).claim.get r = some (.request c')) ∧
  (∀ (q : Intents) (r : Resource) (c : ClaimClass) (t : Nat),
    q.claim.get r = some (.request c) →
    (q.combine (.claim r (.release t))).claim.get r = some (.release t)) ∧
  (∀ (q : Intents) (r : Resource) (t : Nat) (c : ClaimClass),
    q.claim.get r = some (.release t) →
    (q.combine (.claim r (.request c))).claim.get r = some (.release t)) ∧
  (∀ (q : Intents) (r : Resource) (t t' : Nat), q.claim.get r = some (.release t) →
    (q.combine (.claim r (.release t'))).claim.get r = some (.release (min t t'))) ∧
  (∀ (q : Intents) (p : ParkIntent), (q.combine (.park p)).park = some p) ∧
  (∀ (q : Intents) (p : SetpointIntent), (q.combine (.setpoint p)).setpoint = some p) ∧
  (∀ (q : Intents) (i : Intent), i = .wake ∨ i = .supplyLapse ∨ i = .state ∨ i = .join →
    (q.combine i).get i.key = some i) ∧
  (∀ (q : Intents) (i : Intent) (k : Key), k ≠ i.key → (q.combine i).get k = q.get k) ∧
  (∀ (s : State) (i : Intent) (f : FrameBody),
    (s.startFrame i f).txq = { s.txq with onWire := some i.key } ∧
      (s.startFrame i f).lnk.wire = some f) ∧
  ∀ (q : TransmitQueue) (p : Bool), (q.completed p).onWire = none ∧ q.returned.onWire = none

/-- At the outcome of the frame on the wire, a non-void completion takes the intent away and installs the pending replacement; a void or lost frame keeps the intent and combines it. -/
def Obligations.ReplacementsTakeEffect : Prop :=
  ∀ (q : TransmitQueue) (k : Key), q.onWire = some k →
    (∀ paced, (q.completed paced).replacements.get k = none ∧
      (q.completed paced).intents.get k =
        (match q.replacements.get k with
         | some (.claim r (.request c)) => if paced then none else some (.claim r (.request c))
         | x => x) ∧
      ∀ k', k' ≠ k → (q.completed paced).intents.get k' = q.intents.get k' ∧
        (q.completed paced).replacements.get k' = q.replacements.get k') ∧
    q.returned.replacements.get k = none ∧
    (q.replacements.get k = none → q.returned.intents = q.intents) ∧
    (∀ i, q.replacements.get k = some i → q.returned.intents = q.intents.combine i) ∧
    ∀ k', k' ≠ k → q.returned.intents.get k' = q.intents.get k' ∧
      q.returned.replacements.get k' = q.replacements.get k'

/-- OWN_REQUEST_COMPLETION in MEMBER: the self entry, the record, the counters and the pacing take the outcome; the demand is the frame's, limited as the Zone Loop limits it. -/
def Obligations.OwnRequestCompletes : Prop :=
  ∀ (s : State) (r : Resource) (c : ClaimClass) (before raise d : Nat) (ack veto : Bool)
    (e : Entry), s.Sends (.request r c before raise d) → s.mbr.station = .member →
    s.stb.self = some e →
    let limited := if s.dcc.fan.condition ≠ .running then 0
      else if r = .power then (if e.shed then min d (e.floorOr0 .power) else d)
      else if s.zlp.interlock then 0 else d
    let demand := e.demand.set r (some limited)
    let accepted := veto = false ∧ s.lnk.vetoDriven = false
    ∃ t, exec (.ownRequestCompletion ack veto) s = .next t ∧
      t.lnk = { s.lnk.endFrame with
        txVoid := 0, heard := if ack then .heard else .unheard
        counters := (s.lnk.counters.bump .framesSent).bump
          (if accepted then .requestsAccepted else .requestsRefused) } ∧
      t.mbr = { s.mbr with selfSilence := .running (s.clock + Config.selfSilenceTime) } ∧
      (∃ e', t.stb.self = some e' ∧
        e'.committed = (if accepted then e.committed.set r (e.committed.get r + raise)
                        else e.committed) ∧
        (t.zlp.interlock = false → e'.demand = demand) ∧
        (t.zlp.interlock = true → s.cfg.image.isSome = true →
          e'.demand = { demand with cool := some 0, heat := some 0 }) ∧
        e'.lastClass = e.lastClass.set r (some c) ∧ e'.floor = e.floor ∧
        e'.weight = e.weight ∧ e'.shed = e.shed) ∧
      t.stb = { s.stb with self := t.stb.self } ∧
      t.cjg.ownRequest = s.cjg.ownRequest.set r { s.cjg.ownRequest.get r with
        lastOutcome := if accepted then .accepted else .refused } ∧
      t.txq.step = s.txq.step.set r
        (if accepted then .full else .atMost (max 4 (raise / 2))) ∧
      t.txq.holdOff = s.txq.holdOff.set r
        (if accepted then none else some (s.clock + Config.holdOffTime)) ∧
      t.txq.spacing = s.txq.spacing.set r
        (if accepted then some (s.clock + Config.spacingTime) else none) ∧
      t.txq.stateTimer = s.txq.stateTimer ∧ t.OverdrawAgrees ∧
      (¬accepted → s.OverdrawAgrees → t.svc = s.svc.post (s.event .requestRefused none (some r)
        (some (s.cjg.ownRequest.get r).ownVerdict.code))) ∧
      t.csr = s.csr ∧ t.sup = s.sup ∧ t.cfg = s.cfg ∧ t.clock = s.clock ∧
      t.pending = s.pending ∧ s.PortStands t ∧ t.dcc.damper = s.dcc.damper

/-- OWN_RELEASE_COMPLETION in MEMBER: the own draw falls to the new draw, and a target it has reached is gone. -/
def Obligations.OwnReleaseCompletes : Prop :=
  ∀ (s : State) (r : Resource) (newDraw : Nat) (ack : Bool) (e : Entry),
    s.Sends (.release r newDraw) → s.mbr.station = .member → s.stb.self = some e →
    ∃ t, exec (.ownReleaseCompletion ack) s = .next t ∧ s.Completed t ack ∧
      (∃ e', t.stb.self = some e' ∧ e'.committed = e.committed.set r newDraw ∧
        e'.floor = e.floor ∧ e'.weight = e.weight ∧ e'.lastClass = e.lastClass ∧
        e'.shed = e.shed) ∧
      t.stb = { s.stb with self := t.stb.self } ∧
      (s.OverdrawAgrees → newDraw ≤ e.committed.get r → t.cjg.releaseTarget =
        s.cjg.releaseTarget.set r (match s.cjg.releaseTarget.get r with
          | none => none
          | some target => if newDraw ≤ target then none else some target)) ∧
      t.cjg.ownRequest = s.cjg.ownRequest ∧ t.OverdrawAgrees ∧ t.txq.step = s.txq.step ∧
      t.txq.holdOff = s.txq.holdOff ∧ t.txq.spacing = s.txq.spacing ∧
      t.csr = s.csr ∧ t.sup = s.sup ∧ t.cfg = s.cfg ∧ t.clock = s.clock ∧
      t.pending = s.pending ∧ s.PortStands t ∧ t.dcc.damper = s.dcc.damper

/-- OWN_SUPPLY_COMPLETION and OWN_SETPOINT_COMPLETION in MEMBER apply the frame to the own records, the SUPPLY with its CAPACITY_LAPSE events and the overdraw flags; where no flag begins, nothing else changes, and a cut that a begin computes touches its resource's target, the queue, the interlock and the caps. OWN_JOIN_COMPLETION, OWN_STATE_COMPLETION and OWN_WAKE_COMPLETION change the census timer, the STATE timer, and nothing but the link, the membership timers and the queue. -/
def Obligations.OtherOwnFramesComplete : Prop :=
  (∀ (s : State) (ack : Bool), s.mbr.station = .member →
     (∀ fallback values, s.Sends (.supply fallback values) →
       ∃ t, exec (.ownSupplyCompletion ack) s = .next t ∧ s.Completed t ack ∧
         t.csr.setpoint = s.csr.setpoint ∧ t.OverdrawAgrees ∧
         s.Reports t (s.lapseEvents s.ownAddress fallback values ++ s.overdrawEvents t) ∧
         t.cjg = { s.cjg with overdraw := t.cjg.overdraw, releaseTarget := t.cjg.releaseTarget } ∧
         t.zlp = { s.zlp with interlock := t.zlp.interlock } ∧
         t.dcc.damper = s.dcc.damper ∧ t.dcc.fan.condition = s.dcc.fan.condition ∧
         t.txq = { s.txq.completed false with intents := t.txq.intents
                                              replacements := t.txq.replacements } ∧
         (∀ r, t.cjg.overdraw.get r = s.cjg.overdraw.get r ∨ t.cjg.overdraw.get r = false →
           t.cjg.releaseTarget.get r = s.cjg.releaseTarget.get r) ∧
         ((∀ r, t.cjg.overdraw.get r = s.cjg.overdraw.get r ∨ t.cjg.overdraw.get r = false) →
           t = ((((((s.setLnk t.lnk).setMbr t.mbr).setTxq (s.txq.completed false)).setCsr
             t.csr).setCjg t.cjg).setSvc t.svc).setFreeCount t.freeCount) ∧
         (∀ r, t.csr.capacity.get r = match values.get r with
           | none => s.csr.capacity.get r
           | some v =>
             { value := v, source := s.ownAddress
               state := if fallback then .lapsed else .fresh
               timer := if fallback then .stopped else .running (s.clock + Config.supplyTime)
               adoption := false }) ∧
         t.stb = { s.stb with self := t.stb.self } ∧ s.SelfStands t ∧ t.sup = s.sup ∧
         t.cfg = s.cfg ∧ t.clock = s.clock ∧ t.pending = s.pending) ∧
     ∀ value mode epoch origin p, s.Sends (.setpoint value mode epoch origin) →
       s.csr.setpoint = some p → newerEpoch epoch p.epoch = true ∨ epoch = p.epoch →
       ∃ t, exec (.ownSetpointCompletion ack) s = .next t ∧ s.Completed t ack ∧
         t = (((((s.setLnk t.lnk).setMbr t.mbr).setTxq (s.txq.completed false)).setCsr
           { s.csr with setpoint := some ⟨value, mode, epoch, origin⟩ }).setSvc
           (s.svc.post (s.event .setpointAdopted (some origin) none (some value))))) ∧
  ∀ (s : State) (ack : Bool),
    (∀ w, s.Sends (.join w) → s.mbr.station = .joining → s.txq.onWire = some .join →
      ∃ t, exec (.ownJoinCompletion ack) s = .next t ∧
        t = ((s.setLnk t.lnk).setMbr { s.mbr with
            selfSilence := .running (s.clock + Config.selfSilenceTime)
            censusTimer := some (s.clock + Config.censusTime) }).setTxq
          { s.txq.completed false with
            stateTimer := if s.txq.stateTimer.isNone then some (s.clock + Config.stateTime)
                          else s.txq.stateTimer } ∧
        t.lnk.txVoid = 0 ∧ t.lnk.state = .seekingIdle ∧
        t.lnk.heard = if ack then .heard else .unheard) ∧
    (∀ c, s.Sends (.state c) → s.txq.onWire = some .state →
      ∃ t, exec (.ownStateCompletion ack) s = .next t ∧ s.Completed t ack ∧
        t = ((s.setLnk t.lnk).setMbr t.mbr).setTxq
          { s.txq.completed false with
            stateTimer := some (s.clock + Config.stateTime) }) ∧
    (s.Sends .wake →
      ∃ t, exec (.ownWakeCompletion ack) s = .next t ∧ s.Completed t ack ∧
        t = ((s.setLnk t.lnk).setMbr t.mbr).setTxq (s.txq.completed false))

/-! ### Timers of table, records, queue and membership -/

/-- AGE_TICK_EXPIRY: PRESENT entries age, the third tick without a frame lapses one, outdoor ages advance. Here and below, an expiry acts while its timer runs, whatever the clock says (log entry 2, the model's choice). -/
def Obligations.AgeTickAges : Prop :=
  (∀ e : Entry,
    (e.present = true → 2 ≤ e.age → e.pinned = false → e.ticked = none) ∧
    (e.present = true → 2 ≤ e.age → e.pinned = true → e.ticked = some
      { address := e.address, pinned := true, present := false, age := 3, weight := none
        committed := .all 0, floor := .all none, demand := .all (some 0)
        lastClass := .all none, zoneTemp := none, outdoor := none, mode := none
        shed := false }) ∧
    (e.present = true → e.age < 2 → e.ticked = some { e with
      age := e.age + 1
      outdoor := e.outdoor.map fun o => { o with age := min 255 (o.age + 2) } })) ∧
  ∀ s : State, s.Ready → s.stb.ageTimer.isSome = true →
    ∃ t, exec .ageTickExpiry s = .next t ∧ t.stb.order = s.stb.order.filterMap Entry.ticked ∧
      t.stb.ageTimer = some (s.clock + Config.ageTick) ∧
      t.stb.untracked = s.stb.untracked ∧ t.OverdrawAgrees ∧
      (s.stb.order.filter Entry.lapses = [] → s.OverdrawAgrees →
        t = s.setStb t.stb ∧ t.stb.self = s.stb.self.map Entry.outdoorAged) ∧
      (∀ e, s.stb.order.filter Entry.lapses = [e] → s.OverdrawAgrees →
        s.cjg.overdraw = .all false → s.mbr.station.counts = true →
        t.lnk = { s.lnk with counters := s.lnk.counters.bump .peerLapses } ∧
        t.svc = s.svc.post (s.event .peerLapsed (some e.address) none none)) ∧
      t.csr = s.csr ∧ t.mbr = s.mbr ∧ t.sup = s.sup ∧ t.cfg = s.cfg ∧ t.clock = s.clock ∧
      t.pending = s.pending

/-- UNTRACKED_TIMER_EXPIRY, SUPPLY_TIMER_EXPIRY, STATE_TIMER_EXPIRY, REFUSAL_HOLD_OFF_EXPIRY and SPACING_EXPIRY. -/
def Obligations.RecordTimersExpire : Prop :=
  ∀ s : State, s.Ready →
    (s.stb.untrackedTimer.isSome = true → exec .untrackedTimerExpiry s =
      .next (s.setStb { s.stb with untracked := false, untrackedTimer := none })) ∧
    (∀ r deadline, (s.csr.capacity.get r).timer = .running deadline →
      exec (.supplyTimerExpiry r) s =
        .next ((s.setCsr { s.csr with
            capacity := s.csr.capacity.set r
              { s.csr.capacity.get r with timer := .expired } }).setTxq
          (if s.mbr.station = .member ∧ (s.csr.capacity.get r).state = .fresh
           then s.txq.ask .supplyLapse else s.txq))) ∧
    (s.txq.stateTimer.isSome = true → s.txq.onWire ≠ some .state →
      exec .stateTimerExpiry s = .next (s.setTxq
        { s.txq with stateTimer := none
                     intents := { s.txq.intents with
                       state := s.txq.intents.state || s.mbr.station.drives } })) ∧
    (∀ r, exec (.refusalHoldOffExpiry r) s =
      .next (s.setTxq { s.txq with holdOff := s.txq.holdOff.set r none })) ∧
    ∀ r, exec (.spacingExpiry r) s =
      .next (s.setTxq { s.txq with spacing := s.txq.spacing.set r none })

/-- SETTLE_TIMER_EXPIRY in SETTLING and QUIET_TIMER_EXPIRY in LINK_QUIET enter JOINING. CENSUS_TIMER_EXPIRY in JOINING makes a member: the Zone Loop starts, and a lapse that has waited is asked for. A frame being received as LINK_QUIET ends is marked with the clock, for its parts that follow (log entry 42). That the blower demand duty becomes 0 at the entry to MEMBER is the model's reading (log entry 23). -/
def Obligations.StationJoinsAndIsMember : Prop :=
  (∀ s : State, s.Ready →
     (s.mbr.station = .settling → s.mbr.settleTimer.isSome = true →
       exec .settleTimerExpiry s =
         .next (((s.setMbr { s.mbr with station := .joining, settleTimer := none
                                        censusTimer := none }).setTxq
             ({ s.txq with step := .all .full, holdOff := .all none
                           spacing := .all none }.ask .join)).setCsr
           { s.csr with
             capacity := s.csr.capacity.map fun c => { c with adoption := true } })) ∧
     (s.mbr.station = .linkQuiet → s.lnk.quietTimer.isSome = true →
       exec .quietTimerExpiry s =
         .next ((((s.setLnk { s.lnk with
               quietTimer := none
               drivesFrom := if s.lnk.state = .receiving then some s.clock
                             else s.lnk.drivesFrom }).setMbr
               { s.mbr with station := .joining, settleTimer := none
                            censusTimer := none }).setTxq
             ({ s.txq with step := .all .full, holdOff := .all none
                           spacing := .all none }.ask .join)).setCsr
           { s.csr with
             capacity := s.csr.capacity.map fun c => { c with adoption := true } }))) ∧
  ∀ s : State, s.Ready → s.mbr.station = .joining → s.mbr.censusTimer.isSome = true →
    exec .censusTimerExpiry s =
      .next ((((((s.setMbr { s.mbr with station := .member, censusTimer := none }).setCsr
          { s.csr with
            capacity := s.csr.capacity.map fun c => { c with adoption := false } }).setTxq
          (if resources.any (fun r => decide ((s.csr.capacity.get r).state = .fresh) &&
              decide ((s.csr.capacity.get r).timer = .expired))
           then s.txq.ask .supplyLapse else s.txq)).setZlp
        { s.zlp with
          activeMode := none, subMode := .none, block := none, integHeat := 0, integCool := 0
          demand := .all 0, blowerDuty := 0, hold := .none, ceiling := .all none
          holdTimer := none, switchTimer := none, boostTimer := none, interlock := true
          controlTimer := some (s.clock + Config.controlInterval) }).setDcc
        { s.dcc with fan := { s.dcc.fan with
            lastWindow := s.dcc.fan.window, window := 0 } }).setSvc
        (s.svc.post (s.event .joined none none
          (some (s.stb.order.filter (·.present)).length))))

/-- SELF_SILENCE_EXPIRY: a member gives up its draws and rejoins, a joining station only keeps the expiry. A VETO of the frame on the line stands when its slot has begun; otherwise it is neither driven nor recorded nor counted, as the clock tells it (log entry 42, the model's choice). -/
def Obligations.SilentMemberLapses : Prop :=
  ∀ (s : State) (deadline : Nat), s.Ready → s.mbr.selfSilence = .running deadline →
    (s.mbr.station = .joining → exec .selfSilenceExpiry s =
      .next (s.setMbr { s.mbr with selfSilence := .expired })) ∧
    (s.mbr.station = .member → ∃ t, exec .selfSilenceExpiry s = .next t ∧
      t.mbr = { s.mbr with station := .joining, selfSilence := .expired, settleTimer := none
                           censusTimer := none } ∧
      t.stb = { s.stb with self := s.stb.self.map fun e =>
        { e with committed := .all 0, demand := .all (some 0), lastClass := .all none } } ∧
      t.txq = ({ s.txq with step := .all .full, holdOff := .all none
                            spacing := .all none }.ask .join) ∧
      t.cjg.releaseTarget = .all none ∧ t.cjg.ownRequest = s.cjg.ownRequest ∧
      (∀ r, t.csr.capacity.get r = { s.csr.capacity.get r with adoption := true }) ∧
      t.csr.setpoint = s.csr.setpoint ∧ t.zlp.Stopped ∧
      (¬(s.lnk.vetoDriven = true ∧ s.clock < s.lnk.vetoNote.slot) →
        t.lnk = s.lnk ∧ t.cjg.lastVeto = s.cjg.lastVeto) ∧
      (s.lnk.vetoDriven = true → s.clock < s.lnk.vetoNote.slot →
        t.lnk = { s.lnk with
          vetoDriven := false
          counters := { s.lnk.counters with vetoesDriven :=
            if s.lnk.counters.vetoesDriven = s.lnk.vetoNote.count.bump then s.lnk.vetoNote.count
            else s.lnk.counters.vetoesDriven } } ∧
        t.cjg.lastVeto = s.lnk.vetoNote.record) ∧
      (s.Calm → t.svc = s.svc.post (s.event .lapsedSelf none none (some s.lnk.txVoid))) ∧
      t.sup = s.sup ∧ t.cfg = s.cfg ∧ t.clock = s.clock ∧ t.pending = s.pending)

/-- PARK_ARRIVAL and OWN_PARK_COMPLETION: the station parks, and its shares are cleared to their start content. -/
def Obligations.ParkIsTaken : Prop :=
  ∀ (s : State) (img : Image) (d : ParkDepth) (wakeAfter : Nat), s.cfg.image = some img →
    (∀ b slots, s.Hears 0#3 b slots (.park d wakeAfter) →
      ∃ t, exec (.parkArrival b slots) s = .next t ∧ s.Parked t img d wakeAfter ∧
        t.lnk = s.lnk.afterGood.parked d ∧
        (s.Calm → t.svc =
          s.svc.post (s.event .parked (some b.source.toNat) none (some d.code)))) ∧
    ∀ ack, s.Sends (.park d wakeAfter) → s.mbr.station = .member →
      ∃ t, exec (.ownParkCompletion ack) s = .next t ∧ s.Parked t img d wakeAfter ∧
        t.lnk = Link.parked { s.lnk.endFrame with
          heard := if ack then .heard else .unheard
          counters := s.lnk.counters.bump .framesSent } d ∧
        (s.Calm → t.svc =
          s.svc.post (s.event .parked (some img.address) none (some d.code)))

/-- WAKEIN_ACTIVE, WAKE_TIMER_EXPIRY, a WAKE_ARRIVAL in PARKED_LIGHT and a freezing SAMPLE_TIMER_EXPIRY wake a parked station into SETTLING; a sample that is not freezing restarts the sample timer. -/
def Obligations.ParkedStationWakes : Prop :=
  ∀ s : State, s.Ready → s.mbr.station.parked = true →
    (∃ t, exec .wakeinActive s = .next t ∧ s.Woken t .pin s.mbr.freezeWake s.lnk ∧
      t.txq = s.txq.ask .wake ∧ t.zlp = s.zlp) ∧
    (s.mbr.wakeTimer.isSome = true →
      ∃ t, exec .wakeTimerExpiry s = .next t ∧ s.Woken t .timer s.mbr.freezeWake s.lnk ∧
        t.txq = s.txq.ask .wake ∧ t.zlp = s.zlp) ∧
    (∀ b slots, s.mbr.station = .parkedLight → s.lnk.state = .receiving →
      checkGood 1#3 b = true → slots.fault = false → decodeFrame 1#3 b = some .wake →
      ∃ t, exec (.wakeArrival b slots) s = .next t ∧
        s.Woken t (.wakeFrame b.source.toNat) s.mbr.freezeWake s.lnk.endFrame ∧ t.txq = s.txq ∧
        t.zlp = s.zlp) ∧
    ∀ count img, s.mbr.station = .parkedLight → s.mbr.sampleTimer.isSome = true →
      s.cfg.image = some img →
      ((∃ x, convert img.returnCal count = .valid x ∧ x < 50) →
        ∃ t, exec (.sampleTimerExpiry count) s = .next t ∧ s.Woken t .freeze true s.lnk ∧
          t.txq = s.txq ∧ t.zlp = { s.zlp with zone := convert img.returnCal count }) ∧
      ((∀ x, convert img.returnCal count = .valid x → 50 ≤ x) →
        exec (.sampleTimerExpiry count) s =
          .next ((s.setZlp { s.zlp with zone := convert img.returnCal count }).setMbr
            { s.mbr with sampleTimer := some (s.clock + Config.sampleTime) }))

/-! ### File 07: the Zone Loop -/

/-- SENSOR_SAMPLE and the freeze sample: the conversion of a count. -/
def Obligations.CountsAreConverted : Prop :=
  (∀ (cal : Calibration) (count : BitVec 12), count.toNat ≠ 0 → count.toNat ≠ 4095 →
    let x := (((count.toNat : Int) - (cal.zero : Int)) * 80).tdiv (cal.scale : Int)
    convert cal count =
      .valid (if x < -32768 then -32768 else if 32767 < x then 32767 else x)) ∧
  convert { zero := 1200, scale := 320 } 2060#12 = .valid 215 ∧
  convert { zero := 1200, scale := 320 } 1000#12 = .valid (-50) ∧
  (∀ (s : State) (img : Image) (count : BitVec 12), s.Ready → s.cfg.image = some img →
    s.mbr.station.converts = true →
    exec (.sensorSample .returnAir count) s =
      .next (s.setZlp { s.zlp with zone := convert img.returnCal count }) ∧
    exec (.sensorSample .discharge count) s =
      .next (s.setZlp { s.zlp with discharge := convert img.dischargeCal count }) ∧
    exec (.sensorSample .outdoor count) s =
      .next (if img.outdoorPresent
             then s.setZlp { s.zlp with outdoor := convert img.outdoorCal count } else s)) ∧
  ∀ (s : State) (img : Image) (count : BitVec 12), s.cfg.image = some img →
    s.readReturn count = convert img.returnCal count

/-- Stages 3, 4 and 8 of the interval: the AUTO sub-mode (R129), the active mode and the changeover (R128, R130), the loop of HEAT or COOL with its boost (R131, R132, R139), which stays within the rating, and the classes (R133). That a record which leaves AUTO and is back at the next interval keeps its sub-mode, and what "became 0" in R130 means, are the model's readings (log entries 36 and 14). -/
def Obligations.LoopStaysWithinRating : Prop :=
  (∀ (z : ZoneLoop) (img : Image) (m : ZoneMode) (r : Resource) (e : Int),
    r = .heat ∨ r = .cool → z.integrator r ≤ img.rating r →
    (z.runLoop img m r e).demand.get r ≤ img.rating r ∧
    (z.runLoop img m r e).integrator r ≤ img.rating r ∧
    (z.runLoop img m r e).demand.get (otherOf r) = 0 ∧
    (z.runLoop img m r e).integrator (otherOf r) = 0 ∧
    (z.holdsIntegrator r = true → (z.runLoop img m r e).integrator r = z.integrator r) ∧
    (-5 ≤ e → e ≤ 5 → (z.runLoop img m r e).demand.get r =
      (z.runLoop img m r e).integrator r)) ∧
  (∀ (z : ZoneLoop) (img : Image) (m : ZoneMode) (r : Resource) (e : Int),
    r = .heat ∨ r = .cool →
    let x := if m = .cool then -e else e
    let p := if x.natAbs ≤ 5 then 0 else (((img.gainP : Int) * x).tdiv 8)
    let once := ((img.gainI : Int) * x).tdiv 32
    let step := if z.boostTimer.isSome then 2 * once else once
    let i := (z.runLoop img m r e).integrator r
    (z.holdsIntegrator r = false →
      (i : Int) = clampInt 0 (img.rating r) ((z.integrator r : Int) + step)) ∧
    (((z.runLoop img m r e).demand.get r : Nat) : Int) =
      clampInt 0 (img.rating r) (p + (i : Int)) ∧
    (z.holdsIntegrator r = true ↔ z.interlock = true ∨ z.hold ≠ .none ∨
      r = .cool ∧ z.frostTimer.isSome = true)) ∧
  (∀ (s : State) (img : Image),
    (s.zlp.activeMode ≠ some .heat → s.zlp.activeMode ≠ some .cool →
      s.stageLoop img = s.setZlp { s.zlp with
        integHeat := 0, integCool := 0, demand := ⟨0, 0, s.zlp.demand.power⟩ }) ∧
    ∀ m r, s.zlp.activeMode = some m → m = .heat ∧ r = .heat ∨ m = .cool ∧ r = .cool →
      (s.zlp.error = none → s.stageLoop img = s.setZlp { s.zlp with
        boostTimer := none, integHeat := 0, integCool := 0
        demand := ⟨0, 0, s.zlp.demand.power⟩ }) ∧
      ∀ e, s.zlp.error = some e → s.stageLoop img = s.setZlp
        (ZoneLoop.runLoop { s.zlp with
          boostTimer := if img.boostThreshold ≤ e.natAbs then some (s.clock + Config.boostTime)
                        else s.zlp.boostTimer } img m r e)) ∧
  (∀ (z : ZoneLoop) (mode : SetMode) (start : Timer),
    (mode ≠ .auto →
      z.autoMode mode start = { z with subMode := .none, switchTimer := none }) ∧
    (mode = .auto → z.subMode = .none → z.autoMode mode start =
      { z with subMode := match z.error with
                          | some e => if 0 < e then .heat else .cool
                          | none => .heat
               switchTimer := start }) ∧
    (mode = .auto → z.subMode ≠ .none → z.switchTimer.isSome = true →
      z.autoMode mode start = z) ∧
    (mode = .auto → z.subMode ≠ .none → z.switchTimer = none →
      z.autoMode mode start = match z.error with
        | none => z
        | some e =>
          if z.subMode = .heat ∧ e < -10 then
            { z with subMode := .cool, switchTimer := start }
          else if z.subMode = .cool ∧ 10 < e then
            { z with subMode := .heat, switchTimer := start }
          else z)) ∧
  (∀ (s : State) (p : SetpointRecord) (e : Entry), s.stb.self = some e →
    ∃ freeze : Bool, (freeze = true ↔
        s.mbr.freezeWake = true ∧ ∀ x, s.zlp.zone = .valid x → x < 80) ∧
      let z := s.zlp.autoMode p.mode (some (s.clock + Config.switchTime))
      let m : ZoneMode := if freeze then .heat else match p.mode with
        | .off => .off
        | .vent => .vent
        | .heat => .heat
        | .cool => .cool
        | .auto => if z.subMode = .cool then .cool else .heat
      let used := fun r : Resource =>
        decide (r = .power ∧ m ≠ .off ∨ r = .heat ∧ m = .heat ∨ r = .cool ∧ m = .cool)
      let frozen := s.setMbr { s.mbr with freezeWake := freeze }
      (s.zlp.activeMode = some m → s.stageMode p e = frozen.setZlp { z with
        block := match z.block with
          | none => none
          | some r => if e.committed.get (otherOf r) = 0 then none else some r }) ∧
      (s.zlp.activeMode ≠ some m → s.stageMode p e =
        (frozen.setZlp { z with
          activeMode := some m, integHeat := 0, integCool := 0, boostTimer := none
          demand := Per.of fun r => if used r then z.demand.get r else 0
          block := if m = .heat ∧ 0 < e.committed.cool then some .heat
                   else if m = .cool ∧ 0 < e.committed.heat then some .cool else none }).setTxq
          (s.txq.releasing e ([.cool, .heat, .power].filter fun r => !used r)))) ∧
  ∀ (s : State) (img : Image) (e : Entry),
    let ordinary : ClaimClass := if s.zlp.boostTimer.isSome then .recovery else .comfort
    s.stageClasses img e = s.setZlp { s.zlp with classes :=
      { cool := match s.zlp.zone.temp, s.zlp.activeMode with
          | some _, some .heat => ordinary
          | some _, some .cool => ordinary
          | _, _ => .comfort
        heat := match s.zlp.zone.temp, s.zlp.activeMode with
          | some x, some .heat =>
            if x < 80 ∨ s.mbr.freezeWake = true then .protection else ordinary
          | some _, some .cool => ordinary
          | _, _ => .comfort
        power := if (0 < s.zlp.demand.cool ∨ 0 < s.zlp.demand.heat ∨ 0 < e.committed.cool ∨
              0 < e.committed.heat) ∧
            e.committed.power < ceilDiv (img.airflowMin * img.blowerFull) 1000 then .protection
          else ordinary } }

/-- CONTROL_INTERVAL_EXPIRY in MEMBER: the stages in their order, then claim, cut and yield; the next interval, the target, the mode, the fault states, the events in stage order, the published entry and the tach window. Stage by stage: the releases at the onset of a return-air fault (R139), frost guard and economiser (R136, R137), ceilings (R135), blower duty and POWER demand (R138, R140), caps and interlock (R141, R142). Which outdoor readings the economiser may use is the model's reading in part (log entries 12 and 38), as is what the shed lowers (log entry 33). -/
def Obligations.IntervalRuns : Prop :=
  (∀ (s : State) (img : Image) (p : SetpointRecord) (e : Entry), s.Ready →
     s.mbr.station = .member → s.zlp.controlTimer.isSome = true →
     s.cfg.image = some img → s.csr.setpoint = some p → s.stb.self = some e →
     ∃ t, exec .controlIntervalExpiry s = .next t ∧
       (let opened := (s.setZlp { s.zlp with
            controlTimer := some (s.clock + Config.controlInterval) }).setDcc
          { s.dcc with fan := { s.dcc.fan with lastWindow := s.dcc.fan.window, window := 0 } }
        let s5 := ((((opened.stageFaults img).stageTarget img p).stageMode p e).stageLoop
          img).stageFrost e
        let s8 := (s5.stageCeilings.stagePower img e).stageClasses img e
        let s10 := (s8.evalInterlock img e).stageEntry img e
        let s11 := ((s10.doorAtFirst img s.zlp.activeMode.isNone).recomputeCaps).pushDamper
          (s5.damperTarget img)
        t = (((s11.eachResource State.decideClaim).eachResource State.cutAgain).eachResource
          State.yieldShare).flush) ∧
       (∃ es : List EventRecord, es.Perm (s.faultEvents img) ∧
         t.svc = (es ++ s.doorEvents img).foldl ServiceLine.post s.svc) ∧
       t.zlp.controlTimer = some (s.clock + Config.controlInterval) ∧
       t.zlp.target = some (clampInt 160 300
         ((p.value : Int) + img.zoneOffset + s.svc.offset)) ∧
       (s.mbr.freezeWake = false → p.mode ≠ .auto →
         t.zlp.activeMode = some (match p.mode with
           | .off => .off
           | .vent => .vent
           | .heat => .heat
           | .cool => .cool
           | .auto => .heat)) ∧
       (s.mbr.freezeWake = true → (∀ x, s.zlp.zone = .valid x → x < 80) →
         t.zlp.activeMode = some .heat) ∧
       t.zlp.zoneFault = s.zlp.zone.bad ∧ t.zlp.dischargeFault = s.zlp.discharge.bad ∧
       t.zlp.outdoorFault = (img.outdoorPresent && s.zlp.outdoor.bad) ∧
       (∃ e', t.stb.self = some e' ∧ e'.committed = e.committed ∧
         e'.zoneTemp = s.zlp.zone.temp ∧ e'.mode = t.zlp.activeMode ∧
         e'.demand.power = some t.zlp.demand.power ∧ e'.floor = e.floor ∧
         e'.weight = e.weight ∧ e'.lastClass = e.lastClass ∧ e'.shed = e.shed ∧
         e'.outdoor = (if img.outdoorPresent then
           s.zlp.outdoor.temp.map (fun x => { temp := x, age := 0 }) else none)) ∧
       t.stb = { s.stb with self := t.stb.self } ∧
       t.dcc.fan.lastWindow = s.dcc.fan.window ∧ t.dcc.fan.window = 0 ∧
       t.mbr = { s.mbr with freezeWake := t.mbr.freezeWake } ∧ t.csr = s.csr ∧
       t.lnk = s.lnk ∧ t.sup = s.sup ∧ t.cfg = s.cfg ∧ t.clock = s.clock ∧
       t.pending = s.pending ∧ s.PortStands t ∧ t.txq.step = s.txq.step ∧
       t.txq.holdOff = s.txq.holdOff ∧ t.txq.spacing = s.txq.spacing) ∧
  (∀ (s : State) (img : Image) (e : Entry), s.stb.self = some e →
    (s.stageFaults img).txq = if s.zlp.zone.bad = true ∧ s.zlp.zoneFault = false
      then s.txq.releasing e [.heat, .cool] else s.txq) ∧
  (∀ (s : State) (e : Entry), s.stb.self = some e →
    (s.zlp.frost = true ↔ s.zlp.dischargeFault = true ∨
      ∃ x, s.zlp.discharge = .valid x ∧ x < 20) ∧
    (s.economises = true ↔ s.zlp.activeMode = some .cool ∧
      ∃ o z, s.stb.usableOutdoor = some o ∧ s.zlp.zone = .valid z ∧ o ≤ z - 30) ∧
    let timer := if s.zlp.frost then some (s.clock + Config.frostTime) else s.zlp.frostTimer
    let cool := if timer.isSome then 0 else s.zlp.demand.cool
    s.stageFrost e = (s.setZlp { s.zlp with
        frostTimer := timer
        integCool := if timer.isSome then 0 else s.zlp.integCool
        demand := { s.zlp.demand with cool := if s.economises then cool / 2 else cool } }).setTxq
      (if s.zlp.frost = true ∧ s.zlp.frostTimer = none ∧ 0 < e.committed.cool
       then s.txq.ask (.claim .cool (.release 0)) else s.txq)) ∧
  (∀ (s : State) (img : Image), s.damperTarget img =
    if s.zlp.zone.temp = none ∨ s.zlp.activeMode = some .off then 0
    else if s.economises then img.travel else img.travel * img.minFresh / 1000) ∧
  (∀ t : ShareTable,
    (∀ e o, t.self = some e → e.outdoor = some o → t.usableOutdoor = some o.temp) ∧
    (t.self.bind (·.outdoor) = none →
      (peerOutdoor t.order = none → t.usableOutdoor = none) ∧
      ∀ o, peerOutdoor t.order = some o →
        t.usableOutdoor = (if o.age ≤ 60 then some o.temp else none) ∧
        ∃ before e after, t.order = before ++ e :: after ∧ e.present = true ∧
          e.outdoor = some o ∧
          (∀ x ∈ before, ∀ o', x.present = true → x.outdoor = some o' → o.age < o'.age) ∧
          ∀ x ∈ after, ∀ o', x.present = true → x.outdoor = some o' → o.age ≤ o'.age)) ∧
  (∀ s : State,
    let lowered := fun (r : Resource) (d : Nat) =>
      if s.valveClass r = .protection ∨ s.zlp.hold = .none then d
      else match s.zlp.ceiling.get r with
        | none => d
        | some c => min d c
    s.stageCeilings = s.setZlp { s.zlp with demand :=
      ⟨lowered .cool s.zlp.demand.cool, lowered .heat s.zlp.demand.heat,
        s.zlp.demand.power⟩ }) ∧
  (∀ (s : State) (img : Image) (e : Entry),
    let driven := fun (d rating : Nat) =>
      min 1000 (img.airflowMin + d * (1000 - img.airflowMin) / rating)
    let wanted := if s.dcc.fan.condition ≠ .running then 0
      else match s.zlp.activeMode with
        | none => 0
        | some .off => 0
        | some .vent => img.ventDuty
        | some .heat => if s.zlp.zone.bad then img.ventDuty
                        else driven s.zlp.demand.heat img.heatRating
        | some .cool => if s.zlp.zone.bad then img.ventDuty
                        else driven s.zlp.demand.cool img.coolRating
    let amount := (wanted * img.blowerFull + 999) / 1000
    let floor := e.floorOr0 .power
    let shed := if e.shed then min amount floor else amount
    let power := if s.powerClass img e = .protection ∨ s.zlp.hold = .none then shed
      else match s.zlp.ceiling.power with
        | none => shed
        | some c => min shed c
    s.stagePower img e = s.setZlp { s.zlp with
      blowerDuty := if e.shed then min wanted (floor * 1000 / img.blowerFull) else wanted
      demand := { s.zlp.demand with power := power } }) ∧
  ∀ (s : State) (img : Image) (e : Entry), s.stb.self = some e →
    let low := fun (r : Resource) (x : Nat) => match s.cjg.releaseTarget.get r with
      | none => x
      | some target => min x target
    let valve := fun (r : Resource) (rating : Nat) => if s.zlp.interlock then 0
      else low r (min (e.demandOr r) (e.committed.get r)) * 1000 / rating
    let blower := min (min s.zlp.blowerDuty
      (low .power e.committed.power * 1000 / img.blowerFull)) 1000
    s.caps img e = { blower := blower, heat := valve .heat img.heatRating
                     cool := valve .cool img.coolRating } ∧
    s.evalInterlock img e =
      if blower < img.airflowMin ∨ s.dcc.fan.condition ≠ .running then
        (((s.setZlp { s.zlp with interlock := true }).setStb { s.stb with self := some { e with
            demand := { e.demand with cool := some 0, heat := some 0 } } }).setTxq
          (if s.zlp.interlock = false ∧ s.mbr.station = .member
           then s.txq.releasing e [.cool, .heat] else s.txq))
      else s.setZlp { s.zlp with interlock := false }

/-- The claim decision of one resource: a RELEASE more than 8 above demand, a REQUEST below it where one may be asked, otherwise nothing. Beside it the Claim Judge at an interval: the own cut of an overdraw (R41, R42), the yield of a draw above the own entitlement (R47), and what an offered release target does (R43). -/
def Obligations.ClaimIsDecided : Prop :=
  (∀ (s : State) (r : Resource) (e : Entry), s.stb.self = some e →
     (e.demandOr r + 8 < e.committed.get r →
       s.decideClaim r = s.setTxq (s.txq.ask (.claim r (.release (e.demandOr r))))) ∧
     (e.committed.get r < e.demandOr r → s.zlp.block ≠ some r →
       s.cjg.releaseTarget.get r = none → s.txq.holdOff.get r = none →
       s.txq.spacing.get r = none → (∀ t, s.txq.intents.claim.get r ≠ some (.release t)) →
       (∀ t, s.txq.replacements.claim.get r ≠ some (.release t)) →
       s.decideClaim r = s.setTxq (s.txq.ask (.claim r (.request (s.zlp.classes.get r))))) ∧
     (e.committed.get r ≤ e.demandOr r + 8 →
       e.demandOr r ≤ e.committed.get r ∨ s.zlp.block = some r ∨
         s.cjg.releaseTarget.get r ≠ none ∨ s.txq.holdOff.get r ≠ none ∨
         s.txq.spacing.get r ≠ none ∨ (∃ t, s.txq.intents.claim.get r = some (.release t)) ∨
         (∃ t, s.txq.replacements.claim.get r = some (.release t)) →
       s.decideClaim r = s)) ∧
  (∀ (s : State) (r : Resource) (target : Nat),
    (∀ h, s.cjg.releaseTarget.get r = some h → h ≤ target → s.offerTarget r target = s) ∧
    ((∀ h, s.cjg.releaseTarget.get r = some h → target < h) →
      ∃ t, t = (s.setCjg { s.cjg with
          releaseTarget := s.cjg.releaseTarget.set r (some target) }).recomputeCaps ∧
        s.offerTarget r target = t.setTxq (t.txq.ask (.claim r (.release target))))) ∧
  (∀ (s : State) (r : Resource) (e : Entry), s.stb.self = some e →
    let total := s.stb.total r
    let x := total - (s.csr.capacity.get r).value
    let a := (s.stb.counted.map fun e => e.committed.get r - e.floorOr0 r).sum
    let own := e.committed.get r
    let c := if 0 < a then (x * (own - e.floorOr0 r) + (a - 1)) / a
             else (x * own + (total - 1)) / total
    (own - c < own → s.computeCut r = s.offerTarget r (own - c)) ∧
    (own - c = own → s.computeCut r = s) ∧
    (s.cjg.overdraw.get r = true → s.cutAgain r = s.computeCut r) ∧
    (s.cjg.overdraw.get r = false → s.cutAgain r = s)) ∧
  ∀ (s : State) (r : Resource) (e : Entry), s.stb.self = some e →
    let capacity := (s.csr.capacity.get r).value
    let headroom : Int := (capacity : Int) - ((capacity / 8 : Nat) : Int) - (s.stb.total r : Int)
    let share := capacity * e.weightOr1 / s.stb.weightSum
    let excess := e.committed.get r - max share (e.floorOr0 r)
    let gives := s.cjg.overdraw.get r = false ∧ s.cjg.releaseTarget.get r = none ∧
      s.zlp.classes.get r = .comfort ∧ 0 < excess ∧
      ∃ x ∈ s.stb.order, x.present = true ∧ x.committed.get r < x.demandOr r ∧
        headroom < (x.demandOr r : Int) - (x.committed.get r : Int)
    (gives → s.yieldShare r = s.offerTarget r (e.committed.get r - min excess 8)) ∧
    (¬gives → s.yieldShare r = s)

/-- SWITCH_TIMER_EXPIRY, BOOST_TIMER_EXPIRY, FROST_TIMER_EXPIRY, HOLD_TIMER_EXPIRY and DOOR_INPUT_CHANGE. -/
def Obligations.LoopTimersAndDoor : Prop :=
  ∀ s : State, s.Ready →
    exec .switchTimerExpiry s = .next (s.setZlp { s.zlp with switchTimer := none }) ∧
    exec .boostTimerExpiry s = .next (s.setZlp { s.zlp with boostTimer := none }) ∧
    exec .frostTimerExpiry s = .next (s.setZlp { s.zlp with frostTimer := none }) ∧
    (s.zlp.hold = .runout → s.zlp.holdTimer.isSome = true → exec .holdTimerExpiry s =
      .next ((s.setZlp { s.zlp with hold := .none, holdTimer := none
                                    ceiling := .all none }).setSvc
        (s.svc.post (s.event .doorHold none none (some 0))))) ∧
    ∀ img e, s.cfg.image = some img → s.stb.self = some e →
      (s.mbr.station ≠ .member ∨ img.doorEnabled = false → ∀ active,
        exec (.doorInputChange active) s =
          .next (s.setZlp { s.zlp with doorActive := active })) ∧
      (s.mbr.station = .member → img.doorEnabled = true →
        (s.zlp.doorActive = false → s.zlp.hold = .none →
          exec (.doorInputChange true) s =
            .next ((s.setZlp { s.zlp with
                doorActive := true, hold := .opened
                ceiling := Per.of fun r => some (e.demandOr r) }).setSvc
              (s.svc.post (s.event .doorHold none none (some 1))))) ∧
        (s.zlp.doorActive = true → s.zlp.hold = .opened → 0 < img.holdTime →
          exec (.doorInputChange false) s =
            .next (s.setZlp { s.zlp with
              doorActive := false, hold := .runout
              holdTimer := some (s.clock + Config.seconds img.holdTime) })) ∧
        (s.zlp.doorActive = true → s.zlp.hold = .opened → img.holdTime = 0 →
          exec (.doorInputChange false) s =
            .next ((s.setZlp { s.zlp with
                doorActive := false, hold := .none, holdTimer := none
                ceiling := .all none }).setSvc
              (s.svc.post (s.event .doorHold none none (some 0))))) ∧
        (s.zlp.doorActive = false → s.zlp.hold = .runout →
          exec (.doorInputChange true) s =
            .next (s.setZlp { s.zlp with
              doorActive := true, hold := .opened, holdTimer := none })))

/-! ### File 08: drive and capture channels -/

/-- The effective on-time of COOLV, which its cap, its duties and its output follow. -/
def Obligations.EffectiveOnTime : Prop :=
  (∀ d, d ≤ 99 → effectiveOn d = 0) ∧ (∀ d, 100 ≤ d → d ≤ 900 → effectiveOn d = d) ∧
  (∀ d, 901 ≤ d → d ≤ 999 → effectiveOn d = 900) ∧ effectiveOn 1000 = 1000 ∧
  (∀ d, effectiveOn d ≤ d) ∧
  (∀ (d : Drives) (cap clock : Nat), d.cool.active ≤ 1000 →
    (d.pushCap .coolValve cap true clock).cool.cap = cap ∧
    (d.pushCap .coolValve cap true clock).cool.buffered = effectiveOn cap ∧
    (d.pushCap .coolValve cap true clock).cool.active =
      min d.cool.active (effectiveOn cap)) ∧
  (∀ (d : Drives) (clock : Nat), d.cool.on = true → 0 < d.cool.active →
    (d.pushCap .coolValve 60 true clock).cool.on = false) ∧
  (∀ (d : Drives) (clock : Nat), d.cool.on = false →
    (d.pushCap .coolValve 60 true clock).cool.on = false) ∧
  (∀ (d : Drives) (clock : Nat), (d.pushCap .coolValve 950 true clock).cool.buffered = 900) ∧
  ∀ (d : Drives) (clock : Nat), d.cool.on = true → d.cool.active = 1000 →
    d.cool.buffered = 1000 → (d.onTimePassed .coolValve clock).cool.on = true ∧
      (d.periodEnd .coolValve clock).cool.on = true ∧
      (d.periodEnd .coolValve clock).cool.active = 1000

/-- A cap pushed to a channel that follows its caps: forced off at 0, cut at once below the active duty, otherwise only buffered. From where a cut of a deferred on phase is measured is the model's reading (log entry 13). -/
def Obligations.CapIsPushed : Prop :=
  ∀ (d : Drives) (ch : DutyChannel) (cap clock : Nat),
    let c := d.channel ch
    let c' := (d.pushCap ch cap true clock).channel ch
    c'.cap = cap ∧ c'.start = c.start ∧
    (cap = 0 → c'.active = 0 ∧ c'.buffered = 0 ∧ c'.on = false) ∧
    (dutyOf ch cap < c.active → c'.active = dutyOf ch cap ∧ c'.buffered = dutyOf ch cap ∧
      (0 < cap → c'.on = (c.on && decide (c.position clock < onTime ch (dutyOf ch cap))))) ∧
    (0 < cap → c.active ≤ dutyOf ch cap →
      c'.active = c.active ∧ c'.buffered = dutyOf ch cap ∧ c'.on = c.on) ∧
    ∀ other, other ≠ ch → (d.pushCap ch cap true clock).channel other = d.channel other

/-- PERIOD_END, ON_TIME_PASSED and COOL_VALVE_REST_END: a higher buffered duty loads, the output follows its on-time, the cool valve rests 1 s. At a period end stall and good-run timers start where the blower comes to be watched, at 200 ‰ or above in RUNNING, and stop where it is not. -/
def Obligations.PeriodsRun : Prop :=
  ∀ s : State, s.Ready →
    (∀ ch, (s.dcc.channel ch).start.isSome = true →
      ∃ t, exec (.periodEnd ch) s = .next t ∧ t = s.setDcc t.dcc ∧
        (t.dcc.channel ch).active = max (s.dcc.channel ch).active (s.dcc.channel ch).buffered ∧
        (t.dcc.channel ch).buffered = (s.dcc.channel ch).buffered ∧
        (t.dcc.channel ch).cap = (s.dcc.channel ch).cap ∧
        (t.dcc.channel ch).start = some s.clock ∧
        ((t.dcc.channel ch).active = 0 → (t.dcc.channel ch).on = false) ∧
        (0 < (t.dcc.channel ch).active → ch ≠ .coolValve ∨ s.dcc.restTimer = none →
          (t.dcc.channel ch).on = true) ∧
        (0 < (t.dcc.channel ch).active → ch = .coolValve → s.dcc.restTimer.isSome = true →
          (t.dcc.channel ch).on = (s.dcc.channel ch).on) ∧
        (∀ other, other ≠ ch → t.dcc.channel other = s.dcc.channel other) ∧
        t.dcc.fan = (if s.dcc.fan.condition = .running ∧ 200 ≤ t.dcc.blower.active then
            if 200 ≤ s.dcc.blower.active then s.dcc.fan
            else { s.dcc.fan with stallTimer := some (s.clock + Config.stallTime)
                                  goodRunTimer := some (s.clock + Config.goodRunTime) }
          else { s.dcc.fan with stallTimer := none, goodRunTimer := none }) ∧
        t.dcc.damper = s.dcc.damper) ∧
    (∀ ch, (s.dcc.channel ch).on = true → (s.dcc.channel ch).active < 1000 →
      ∃ t, exec (.onTimePassed ch) s = .next t ∧ t = s.setDcc t.dcc ∧
        t.dcc.channel ch = { s.dcc.channel ch with on := false } ∧
        (ch = .coolValve → t.dcc.restTimer = some (s.clock + Config.coolRest)) ∧
        (∀ other, other ≠ ch → t.dcc.channel other = s.dcc.channel other) ∧
        t.dcc.damper = s.dcc.damper) ∧
    ∀ begun rest, s.dcc.restTimer = some rest → s.dcc.deferred = true →
      s.dcc.cool.start = some begun → s.dcc.cool.on = false → 0 < s.dcc.cool.active →
      ∃ t, exec .coolValveRestEnd s = .next t ∧ t = s.setDcc t.dcc ∧
        t.dcc.restTimer = none ∧ t.dcc.deferred = false ∧
        t.dcc.cool = { s.dcc.cool with
          on := decide (rest + Config.coolLeastOn ≤
            begun + s.dcc.cool.active * 200000) } ∧
        t.dcc.blower = s.dcc.blower ∧ t.dcc.heat = s.dcc.heat ∧
        t.dcc.damper = s.dcc.damper

/-- STEP_TIMER_EXPIRY, DEAD_TIMER_EXPIRY and DMPEND_ACTIVE: steps are counted, the motor rests 50 ms at its target, homing ends at the end-stop or fails after travel + 10 steps. The end-stop a step reads is the command's operand (log entry 19, the model's choice). -/
def Obligations.DamperMoves : Prop :=
  ∀ s : State, s.Ready →
    (∀ p, s.dcc.damper.homed = .homed → s.dcc.damper.motion = .opening →
      s.dcc.damper.position = some p → s.dcc.damper.stepTimer.isSome = true →
      exec (.stepTimerExpiry false) s = .next (s.setDcc { s.dcc with damper :=
        if p + 1 = s.dcc.damper.target then
          { s.dcc.damper with endStop := false, position := some (p + 1), motion := .dead
                              stepTimer := none, deadTimer := some (s.clock + Config.deadTime) }
        else
          { s.dcc.damper with endStop := false, position := some (p + 1)
                              stepTimer := some (s.clock + Config.stepTime) } })) ∧
    (∀ p, s.dcc.damper.homed = .homed → s.dcc.damper.motion = .closing →
      s.dcc.damper.position = some (p + 1) → s.dcc.damper.stepTimer.isSome = true →
      exec (.stepTimerExpiry false) s = .next (s.setDcc { s.dcc with damper :=
        if p = s.dcc.damper.target then
          { s.dcc.damper with endStop := false, position := some p, motion := .dead
                              stepTimer := none, deadTimer := some (s.clock + Config.deadTime) }
        else
          { s.dcc.damper with endStop := false, position := some p
                              stepTimer := some (s.clock + Config.stepTime) } })) ∧
    (s.dcc.damper.homed = .homing → s.dcc.damper.stepTimer.isSome = true →
      s.travel + 10 ≤ s.dcc.damper.homingSteps + 1 →
      exec (.stepTimerExpiry false) s = .next ((s.setDcc { s.dcc with damper :=
        { s.dcc.damper with
          endStop := false, homingSteps := s.dcc.damper.homingSteps + 1, homed := .unhomed
          position := none, faultLatch := true, motion := .dead, stepTimer := none
          deadTimer := some (s.clock + Config.deadTime) } }).setSvc
        (s.svc.post (s.event .damperFault none none (some (s.travel + 10)))))) ∧
    (s.dcc.damper.homed = .homing → s.dcc.damper.deadTimer.isSome = true →
      exec .deadTimerExpiry s = .next (s.setDcc { s.dcc with damper :=
        { s.dcc.damper with deadTimer := none, motion := .closing
                            stepTimer := some (s.clock + Config.stepTime) } })) ∧
    (∀ p, s.dcc.damper.homed = .homed → s.dcc.damper.deadTimer.isSome = true →
      s.dcc.damper.position = some p → s.mbr.station ≠ .isolated →
      exec .deadTimerExpiry s = .next (s.setDcc { s.dcc with damper :=
        if p = s.dcc.damper.target then
          { s.dcc.damper with deadTimer := none, motion := .idle }
        else
          { s.dcc.damper with deadTimer := none
                              motion := if p < s.dcc.damper.target then .opening else .closing
                              stepTimer := some (s.clock + Config.stepTime) } })) ∧
    (s.dcc.damper.homed = .homing ∨
        s.dcc.damper.homed = .homed ∧ s.dcc.damper.motion = .closing →
      exec .dmpendActive s = .next (s.setDcc { s.dcc with damper :=
        { s.dcc.damper with endStop := true, homed := .homed, position := some 0
                            motion := .dead, stepTimer := none
                            deadTimer := some (s.clock + Config.deadTime) } })) ∧
    (s.dcc.damper.homed = .homed → s.dcc.damper.motion ≠ .closing →
      exec .dmpendActive s =
        .next (s.setDcc { s.dcc with damper := { s.dcc.damper with endStop := true } }))

/-- TACH_EDGE: the window counts to 255, the period is the time between edges, and an edge restarts the watch. The period is the time in units of 10 µs within 1 to 65535; of a time between two units it is either of the two, a free value (log entry 6). STALL_TIMER_EXPIRY, RESTART_TIMER_EXPIRY and GOOD_RUN_TIMER_EXPIRY: the blower off, its condition, the count, and in MEMBER the POWER loop demand and the published demands 0. -/
def Obligations.BlowerIsWatched : Prop :=
  (∀ (s : State) (last : Nat), s.Ready → s.cfg.image.isSome = true →
     s.dcc.fan.lastEdge = some last →
     ∃ t, exec .tachEdge s = .next t ∧
       t.dcc.fan.window = min 255 (s.dcc.fan.window + 1) ∧
       (∃ x, t.dcc.fan.period = some (max 1 (min 65535 x)) ∧
         (x = (s.clock - last) / 200 ∨
           x = (s.clock - last) / 200 + 1 ∧ (s.clock - last) % 200 ≠ 0)) ∧
       t.dcc.fan.lastEdge = some s.clock ∧
       (s.dcc.fan.condition = .running → 200 ≤ s.dcc.blower.active →
         t.dcc.fan.stallTimer = some (s.clock + Config.stallTime)) ∧
       t.svc = (if s.dcc.fan.window = 254
                then s.svc.post (s.event .tachOverrun none none (some 255)) else s.svc) ∧
       t = ((s.setDcc { s.dcc with fan := t.dcc.fan }).setSvc t.svc).setFreeCount
         (s.freeCount + 1)) ∧
  ∀ s : State, s.Ready →
    (s.dcc.fan.stallTimer.isSome = true → ∃ t, exec .stallTimerExpiry s = .next t ∧
      t.dcc.blower.on = false ∧ t.dcc.blower.active = 0 ∧ t.dcc.blower.buffered = 0 ∧
      t.dcc.fan.stallCount = s.dcc.fan.stallCount + 1 ∧ t.dcc.fan.stallTimer = none ∧
      t.dcc.fan.goodRunTimer = none ∧
      (s.dcc.fan.stallCount + 1 < 3 → t.dcc.fan.condition = .stalled ∧
        t.dcc.fan.restartTimer = some (s.clock + Config.restartTime) ∧
        t.dcc.fan.faultLatch = s.dcc.fan.faultLatch ∧
        t.svc = s.svc.post (s.event .blowerStall none none (some (s.dcc.fan.stallCount + 1)))) ∧
      (s.dcc.fan.stallCount + 1 = 3 → t.dcc.fan.condition = .fault ∧
        t.dcc.fan.restartTimer = none ∧ t.dcc.fan.faultLatch = true ∧
        t.svc = (s.svc.post (s.event .blowerStall none none (some 3))).post
          (s.event .blowerFault none none (some 3))) ∧
      (s.mbr.station = .member →
        t.zlp.demand = { s.zlp.demand with power := 0 } ∧ t.zlp.blowerDuty = 0 ∧
        ∀ e, s.stb.self = some e → ∃ e', t.stb.self = some e' ∧
          e'.demand = .all (some 0) ∧ e'.committed = e.committed) ∧
      (∀ img e, s.mbr.station = .member → s.cfg.image = some img → s.stb.self = some e →
        t.zlp.interlock = true ∧ t.dcc.heat.on = false ∧ t.dcc.cool.on = false ∧
        ∀ r, 0 < e.committed.get r → s.txq.onWire ≠ some (.claim r) →
          t.txq.intents.claim.get r = some (.release 0)) ∧
      t.csr = s.csr ∧ t.lnk = s.lnk ∧ t.mbr = s.mbr ∧ t.sup = s.sup ∧ t.cfg = s.cfg ∧
      t.clock = s.clock ∧ t.pending = s.pending ∧ t.dcc.damper = s.dcc.damper) ∧
    (s.dcc.fan.restartTimer.isSome = true → s.dcc.fan.condition = .stalled →
      ∃ t, exec .restartTimerExpiry s = .next t ∧ t.dcc.fan.condition = .running ∧
        t.dcc.fan.restartTimer = none ∧ t.dcc.fan.stallCount = s.dcc.fan.stallCount ∧
        t.svc = s.svc ∧ t.csr = s.csr ∧ t.lnk = s.lnk ∧ t.mbr = s.mbr ∧ t.sup = s.sup ∧
        t.cfg = s.cfg ∧ t.clock = s.clock ∧ t.pending = s.pending ∧
        t.dcc.damper = s.dcc.damper) ∧
    (s.dcc.fan.goodRunTimer.isSome = true → exec .goodRunTimerExpiry s =
      .next (s.setDcc { s.dcc with fan :=
        { s.dcc.fan with stallCount := 0, goodRunTimer := none } }))

/-! ### File 11: the Service Line -/

/-- An event at the mask and the FIFO: entered, counted as lost, or not collected; ATTN stands while a record is held. -/
def Obligations.EventsAreCollected : Prop :=
  (∀ (v : ServiceLine) (e : EventRecord),
    (v.mask.getLsbD e.kind.code = false → v.post e = v) ∧
    (v.mask.getLsbD e.kind.code = true → v.fifo.length < 16 →
      v.post e = { v with fifo := v.fifo ++ [e] }) ∧
    (v.mask.getLsbD e.kind.code = true → 16 ≤ v.fifo.length →
      v.post e = { v with lost := min 255 (v.lost + 1) })) ∧
  ∀ s : State, s.pins.attn = (!s.held && !s.svc.fifo.isEmpty)

/-- SERVICE_BYTE_RECEIVED, INTER_BYTE_TIMER_EXPIRY and ANSWER_SENT: the receive state, byte by byte, and a message taken byte by byte acting as its row; and the bytes of an answer: status codes, checksum, at most 255 payload bytes, values more significant byte first. That a start byte does not start the inter-byte timer, and that a taken message or a length above 8 leaves it running, is the model's reading (log entries 34 and 41); the widths, codes and marks of an answer's fields are open, and that each field has whole bytes of its own in the rules' order is the model's choice (log entry 17). -/
def Obligations.ReceiverStates : Prop :=
  (∀ (w : Nat) (v : Int), (beBytes w v).length = w ∧
     (beBytes w v).foldl (fun n b => n * 256 + (b.toNat : Int)) 0 = v % 256 ^ w) ∧
  (∀ (a : Answer) (layout : AnswerLayout), ∃ (status checksum : Byte) (data : List Byte),
     a.bytes layout = 0xA5#8 :: BitVec.ofNat 8 (data.length + 1) :: a.command :: status ::
       (data ++ [checksum]) ∧
     status.toNat = (match a.status with
       | .ok => 0
       | .nak => 1
       | .unknown => 2
       | .badValue => 3
       | .notMember => 4
       | .notReady => 5) ∧
     (data.length + 1 + a.command.toNat + status.toNat + (data.map (·.toNat)).sum +
       checksum.toNat) % 256 = 0 ∧
     data.length + 1 ≤ 255 ∧ (a.data = .none → data = []) ∧
     ((∀ cause count, a.data ≠ .cause cause count) →
       data = a.data.fields.flatMap layout.fieldBytes) ∧
     ∀ cause count, a.data = .cause cause count → data =
       [match cause with
        | .none => 0#8
        | .powerOn => 1#8
        | .supplyCut => 2#8
        | .pin => 3#8, BitVec.ofNat 8 count]) ∧
  ∀ s : State, s.Ready →
    (∀ b, exec (.serviceByteReceived b true) s = .next s) ∧
    (s.svc.rx = .busy → ∀ b f, exec (.serviceByteReceived b f) s = .next s) ∧
    (s.svc.rx = .hunt → ∀ b, exec (.serviceByteReceived b false) s =
      .next (if b = 0xA5#8 then s.setSvc { s.svc with rx := .length } else s)) ∧
    (s.svc.rx = .length → ∀ b : Byte, b.toNat ≤ 8 →
      exec (.serviceByteReceived b false) s = .next (s.setSvc
        { s.svc with rx := .body, length := b.toNat, buffer := []
                     interByte := some (s.clock + Config.interByteTime) })) ∧
    (s.svc.rx = .length → ∀ b : Byte, 8 < b.toNat →
      exec (.serviceByteReceived b false) s = .next (s.setSvc
        { s.svc with rx := .hunt, length := 0, buffer := [] })) ∧
    (s.svc.rx = .body → s.svc.buffer.length + 1 < s.svc.length + 2 → ∀ b,
      exec (.serviceByteReceived b false) s = .next (s.setSvc
        { s.svc with buffer := s.svc.buffer ++ [b]
                     interByte := some (s.clock + Config.interByteTime) })) ∧
    (s.svc.rx = .body → ∀ (command checksum : Byte) (payload : List Byte),
      s.svc.buffer = command :: payload → s.svc.length = payload.length →
      checksumGood command payload checksum = false →
      exec (.serviceByteReceived checksum false) s =
        .next (s.setSvc (s.svc.answering s.clock command.toNat .nak .none))) ∧
    (s.svc.rx = .body → ∀ (command checksum : Byte) (payload : List Byte),
      s.svc.buffer = command :: payload → s.svc.length = payload.length →
      checksumGood command payload checksum = true →
      command.toNat = 0 ∨ 13 < command.toNat →
      exec (.serviceByteReceived checksum false) s =
        .next (s.setSvc (s.svc.answering s.clock command.toNat .unknown .none))) ∧
    (s.svc.rx = .body → ∀ code row payload checksum, (code, row) ∈ serviceRows →
      s.svc.buffer = BitVec.ofNat 8 code :: payload → s.svc.length = payload.length →
      payload.length ≤ 8 →
      exec (.serviceByteReceived checksum false) s =
        exec (row { payload := payload, checksum := checksum }) s) ∧
    (s.svc.interByte.isSome = true → exec .interByteTimerExpiry s =
      .next (s.setSvc (if s.svc.rx = .length ∨ s.svc.rx = .body
        then { s.svc with rx := .hunt, length := 0, buffer := [], interByte := none }
        else { s.svc with interByte := none }))) ∧
    (s.svc.rx = .busy → exec .answerSent s =
      .next (s.setSvc { s.svc with rx := .hunt, answer := none }))

/-- STATUS, ENTRY, CAPACITY, SETPOINT_READ and COUNTERS answer with what they read and change nothing else. SETPOINT_SET, OFFSET_SET, EVENTS, CLEAR_COUNTERS, CAUSE, PARK and MASK act and answer OK. That a row carries a whole message and an answer is held by its fields is the model's choice (log entry 17), and that the inter-byte timer runs on from the taking its reading (log entry 41), here and below. -/
def Obligations.CommandsAnswer : Prop :=
  (∀ (s : State) (m : ServiceMessage),
     (s.Takes 1 m → m.payload = [] → exec (.status m) s =
       .next (s.setSvc (s.svc.answering s.clock 1 .ok (.status s.statusData)))) ∧
     (∀ place : Byte, s.Takes 2 m → m.payload = [place] → place.toNat ≤ 11 →
       exec (.entry m) s = .next (s.setSvc (s.svc.answering s.clock 2 .ok
         (.entry (s.stb.self.toList.length + s.stb.order.length)
           (if place.toNat = 0 then s.stb.self else s.stb.order[place.toNat - 1]?))))) ∧
     (s.Takes 3 m → m.payload = [] → exec (.capacity m) s =
       .next (s.setSvc (s.svc.answering s.clock 3 .ok (.capacity (s.csr.capacity.map fun c =>
         { value := c.value, source := c.source, state := c.state }))))) ∧
     (s.Takes 4 m → m.payload = [] → exec (.setpointRead m) s =
       .next (s.setSvc (s.svc.answering s.clock 4 .ok (.setpoint s.csr.setpoint)))) ∧
     (s.Takes 8 m → m.payload = [] → exec (.counters m) s =
       .next (s.setSvc (s.svc.answering s.clock 8 .ok (.counters s.lnk.counters))))) ∧
  ∀ (s : State) (m : ServiceMessage),
    (∀ hi lo code mode, s.Takes 5 m → s.mbr.station = .member → m.payload = [hi, lo, code] →
      160 ≤ be16 hi lo → be16 hi lo ≤ 300 → setModeOfCode code.toNat = some mode →
      exec (.setpointSet m) s = .next ((s.setTxq (s.txq.ask
          (.setpoint { value := be16 hi lo, mode := mode }))).setSvc
        (s.svc.answering s.clock 5 .ok .none))) ∧
    (∀ b, s.Takes 6 m → m.payload = [b] → -30 ≤ signed8 b → signed8 b ≤ 30 →
      exec (.offsetSet m) s =
        .next (s.setSvc ({ s.svc with offset := signed8 b }.answering s.clock 6 .ok .none))) ∧
    (s.Takes 7 m → m.payload = [] → exec (.events m) s =
      .next (s.setSvc ({ s.svc with fifo := s.svc.fifo.drop 4, lost := 0 }.answering s.clock 7 .ok
        (.events (min 4 s.svc.fifo.length) s.svc.lost (s.svc.fifo.take 4))))) ∧
    (s.Takes 9 m → m.payload = [] → exec (.clearCounters m) s =
      .next ((s.setLnk { s.lnk with counters := .zero }).setSvc
        (s.svc.answering s.clock 9 .ok .none))) ∧
    (s.Takes 10 m → m.payload = [] → exec (.cause m) s =
      .next ((s.setSup { s.sup with cause := .none }).setSvc
        (s.svc.answering s.clock 10 .ok (.cause s.sup.cause s.sup.cutCount)))) ∧
    (∀ depth hi lo d, s.Takes 12 m → s.mbr.station = .member → m.payload = [depth, hi, lo] →
      parkDepthOfCode depth.toNat = some d → be16 hi lo ≤ 1440 →
      exec (.park m) s = .next ((s.setTxq (s.txq.ask
          (.park { depth := d, wakeAfter := be16 hi lo }))).setSvc
        (s.svc.answering s.clock 12 .ok .none))) ∧
    ∀ a b c d, s.Takes 13 m → m.payload = [a, b, c, d] →
      exec (.mask m) s =
        .next (s.setSvc ({ s.svc with mask := a ++ b ++ c ++ d }.answering s.clock 13 .ok .none))

/-- CLEAR_FAULT clears both latches and the stall count; a FAULT ends, and a damper whose latch was set homes again. -/
def Obligations.ClearFaultClears : Prop :=
  ∀ (s : State) (m : ServiceMessage), s.Takes 11 m → m.payload = [] →
    ∃ t, exec (.clearFault m) s = .next t ∧ t.svc = s.svc.answering s.clock 11 .ok .none ∧
      t.dcc.fan.faultLatch = false ∧ t.dcc.fan.stallCount = 0 ∧
      t.dcc.fan.condition = (if s.dcc.fan.condition = .fault then .running
                             else s.dcc.fan.condition) ∧
      t.dcc.fan.restartTimer = s.dcc.fan.restartTimer ∧
      t.dcc.damper = (if s.dcc.damper.faultLatch = true ∧ s.mbr.station.converts = true then
          (Damper.home { s.dcc.damper with faultLatch := false }) s.clock
        else { s.dcc.damper with faultLatch := false }) ∧
      t.csr = s.csr ∧ t.lnk = s.lnk ∧ t.mbr = s.mbr ∧ t.sup = s.sup ∧ t.cfg = s.cfg ∧
      t.clock = s.clock ∧ t.pending = s.pending

/-- Every command is refused the same way: discarded in BUSY, NAK at a bad checksum, NOT_READY, BAD_VALUE and NOT_MEMBER, with no effect but the answer. -/
def Obligations.CommandsAreRefused : Prop :=
  ∀ (s : State) (code : Nat) (row : ServiceMessage → Instr) (m : ServiceMessage),
    (code, row) ∈ serviceRows → s.Ready →
    (s.svc.rx = .busy → exec (row m) s = .next s) ∧
    (s.svc.rx ≠ .busy → m.payload.length ≤ 8 →
      checksumGood (BitVec.ofNat 8 code) m.payload m.checksum = false →
      exec (row m) s = .next (s.setSvc (s.svc.answering s.clock code .nak .none))) ∧
    (s.svc.rx ≠ .busy → m.payload.length ≤ 8 →
      checksumGood (BitVec.ofNat 8 code) m.payload m.checksum = true →
      s.mbr.station = .configRead ∨ s.mbr.station = .configFault → code ≠ 1 → code ≠ 10 →
      exec (row m) s = .next (s.setSvc (s.svc.answering s.clock code .notReady .none))) ∧
    (s.Takes code m → parseCommand code m.payload = none →
      exec (row m) s = .next (s.setSvc (s.svc.answering s.clock code .badValue .none))) ∧
    (s.Takes code m → parseCommand code m.payload ≠ none → code = 5 ∨ code = 12 →
      s.mbr.station ≠ .member →
      exec (row m) s = .next (s.setSvc (s.svc.answering s.clock code .notMember .none)))

end
end

