-- ==== Sys2Proof/Laws/Answers.lean ====
section
/-! SUPPORT. The bytes of answers: the length and value of a field's bytes, and the limit of 255 payload bytes (R181). -/

namespace Sys2Proof.Machine

theorem beBytes_length (w : Nat) (v : Int) : (beBytes w v).length = w := by
  induction w with
  | zero => rfl
  | succ w ih => simp [beBytes, ih]

/-- A field takes its kind's width, and an optional one its mark. -/
theorem fieldBytes_length (l : LayoutChoice) (f : AnswerField) :
    (l.fieldBytes f).length =
      match f with
      | .always k _ => l.width k
      | .optional k (some _) => (l.present k).length + l.width k
      | .optional k none => (l.absent k).length := by
  cases f with
  | always k v => exact beBytes_length _ _
  | optional k v =>
    cases v with
    | none => rfl
    | some v => simp [LayoutChoice.fieldBytes, LayoutChoice.valueBytes, beBytes_length]

/-- R181: the data of an answer leave room for its status within 255 bytes. -/
theorem dataBytes_le (layout : AnswerLayout) (d : AnswerData) : (d.bytes layout).length ≤ 254 := by
  cases d with
  | cause c n => exact (by decide : 2 ≤ 254)
  | none => exact layout.fits .none
  | status x => exact layout.fits (.status x)
  | entry n e => exact layout.fits (.entry n e)
  | capacity x => exact layout.fits (.capacity x)
  | setpoint x => exact layout.fits (.setpoint x)
  | events n l x => exact layout.fits (.events n l x)
  | counters x => exact layout.fits (.counters x)

/-- Fields of at most `n` bytes each. -/
theorem fields_length_le (l : LayoutChoice) (n : Nat) (fs : List AnswerField)
    (h : ∀ f, (l.fieldBytes f).length ≤ n) : (fs.flatMap l.fieldBytes).length ≤ n * fs.length := by
  induction fs with
  | nil => simp
  | cons f fs ih =>
    rw [List.flatMap_cons, List.length_append, List.length_cons, Nat.mul_succ]
    have := h f
    omega

/-- No answer has more than 42 fields. -/
theorem answer_fields_le (d : AnswerData) : d.fields.length ≤ 42 := by
  cases d with
  | none => exact Nat.zero_le _
  | status x => exact (by decide : 37 ≤ 42)
  | entry n e =>
    cases e with
    | none => exact (by decide : 1 ≤ 42)
    | some e => exact (by decide : 23 ≤ 42)
  | capacity x => exact (by decide : 9 ≤ 42)
  | setpoint x => exact (by decide : 4 ≤ 42)
  | events n l x =>
    have h : ∀ es : List EventRecord, (es.flatMap EventRecord.fields).length = 5 * es.length := by
      intro es
      induction es with
      | nil => rfl
      | cons e es ih =>
        rw [List.flatMap_cons, List.length_append, ih, List.length_cons]
        simp only [EventRecord.fields, List.length_cons, List.length_nil]
        omega
    have h4 : (x.take 4).length ≤ 4 := by rw [List.length_take]; exact Nat.min_le_left _ _
    simp only [AnswerData.fields, List.length_cons, h]
    omega
  | counters x => exact (by decide : 20 ≤ 42)
  | cause c n => exact Nat.zero_le _

end Sys2Proof.Machine
end

