-- ==== Sys2Proof/Laws/State.lean ====
section
/-! SUPPORT. One lemma per field per block update of State, each true by definition, so that no proof unfolds an update. -/

namespace Sys2Proof.Machine

@[simp] theorem State.setStb_stb (s : State) (x : ShareTable) : (s.setStb x).stb = x := rfl
@[simp] theorem State.setStb_cjg (s : State) (x : ShareTable) : (s.setStb x).cjg = s.cjg := rfl
@[simp] theorem State.setStb_csr (s : State) (x : ShareTable) : (s.setStb x).csr = s.csr := rfl
@[simp] theorem State.setStb_lnk (s : State) (x : ShareTable) : (s.setStb x).lnk = s.lnk := rfl
@[simp] theorem State.setStb_txq (s : State) (x : ShareTable) : (s.setStb x).txq = s.txq := rfl
@[simp] theorem State.setStb_mbr (s : State) (x : ShareTable) : (s.setStb x).mbr = s.mbr := rfl
@[simp] theorem State.setStb_zlp (s : State) (x : ShareTable) : (s.setStb x).zlp = s.zlp := rfl
@[simp] theorem State.setStb_dcc (s : State) (x : ShareTable) : (s.setStb x).dcc = s.dcc := rfl
@[simp] theorem State.setStb_sup (s : State) (x : ShareTable) : (s.setStb x).sup = s.sup := rfl
@[simp] theorem State.setStb_cfg (s : State) (x : ShareTable) : (s.setStb x).cfg = s.cfg := rfl
@[simp] theorem State.setStb_svc (s : State) (x : ShareTable) : (s.setStb x).svc = s.svc := rfl
@[simp] theorem State.setStb_clock (s : State) (x : ShareTable) : (s.setStb x).clock = s.clock := rfl
@[simp] theorem State.setStb_freeCount (s : State) (x : ShareTable) : (s.setStb x).freeCount = s.freeCount := rfl
@[simp] theorem State.setStb_raised (s : State) (x : ShareTable) : (s.setStb x).raised = s.raised := rfl
@[simp] theorem State.setStb_pending (s : State) (x : ShareTable) : (s.setStb x).pending = s.pending := rfl
@[simp] theorem State.setCjg_stb (s : State) (x : ClaimJudge) : (s.setCjg x).stb = s.stb := rfl
@[simp] theorem State.setCjg_cjg (s : State) (x : ClaimJudge) : (s.setCjg x).cjg = x := rfl
@[simp] theorem State.setCjg_csr (s : State) (x : ClaimJudge) : (s.setCjg x).csr = s.csr := rfl
@[simp] theorem State.setCjg_lnk (s : State) (x : ClaimJudge) : (s.setCjg x).lnk = s.lnk := rfl
@[simp] theorem State.setCjg_txq (s : State) (x : ClaimJudge) : (s.setCjg x).txq = s.txq := rfl
@[simp] theorem State.setCjg_mbr (s : State) (x : ClaimJudge) : (s.setCjg x).mbr = s.mbr := rfl
@[simp] theorem State.setCjg_zlp (s : State) (x : ClaimJudge) : (s.setCjg x).zlp = s.zlp := rfl
@[simp] theorem State.setCjg_dcc (s : State) (x : ClaimJudge) : (s.setCjg x).dcc = s.dcc := rfl
@[simp] theorem State.setCjg_sup (s : State) (x : ClaimJudge) : (s.setCjg x).sup = s.sup := rfl
@[simp] theorem State.setCjg_cfg (s : State) (x : ClaimJudge) : (s.setCjg x).cfg = s.cfg := rfl
@[simp] theorem State.setCjg_svc (s : State) (x : ClaimJudge) : (s.setCjg x).svc = s.svc := rfl
@[simp] theorem State.setCjg_clock (s : State) (x : ClaimJudge) : (s.setCjg x).clock = s.clock := rfl
@[simp] theorem State.setCjg_freeCount (s : State) (x : ClaimJudge) : (s.setCjg x).freeCount = s.freeCount := rfl
@[simp] theorem State.setCjg_raised (s : State) (x : ClaimJudge) : (s.setCjg x).raised = s.raised := rfl
@[simp] theorem State.setCjg_pending (s : State) (x : ClaimJudge) : (s.setCjg x).pending = s.pending := rfl
@[simp] theorem State.setCsr_stb (s : State) (x : Records) : (s.setCsr x).stb = s.stb := rfl
@[simp] theorem State.setCsr_cjg (s : State) (x : Records) : (s.setCsr x).cjg = s.cjg := rfl
@[simp] theorem State.setCsr_csr (s : State) (x : Records) : (s.setCsr x).csr = x := rfl
@[simp] theorem State.setCsr_lnk (s : State) (x : Records) : (s.setCsr x).lnk = s.lnk := rfl
@[simp] theorem State.setCsr_txq (s : State) (x : Records) : (s.setCsr x).txq = s.txq := rfl
@[simp] theorem State.setCsr_mbr (s : State) (x : Records) : (s.setCsr x).mbr = s.mbr := rfl
@[simp] theorem State.setCsr_zlp (s : State) (x : Records) : (s.setCsr x).zlp = s.zlp := rfl
@[simp] theorem State.setCsr_dcc (s : State) (x : Records) : (s.setCsr x).dcc = s.dcc := rfl
@[simp] theorem State.setCsr_sup (s : State) (x : Records) : (s.setCsr x).sup = s.sup := rfl
@[simp] theorem State.setCsr_cfg (s : State) (x : Records) : (s.setCsr x).cfg = s.cfg := rfl
@[simp] theorem State.setCsr_svc (s : State) (x : Records) : (s.setCsr x).svc = s.svc := rfl
@[simp] theorem State.setCsr_clock (s : State) (x : Records) : (s.setCsr x).clock = s.clock := rfl
@[simp] theorem State.setCsr_freeCount (s : State) (x : Records) : (s.setCsr x).freeCount = s.freeCount := rfl
@[simp] theorem State.setCsr_raised (s : State) (x : Records) : (s.setCsr x).raised = s.raised := rfl
@[simp] theorem State.setCsr_pending (s : State) (x : Records) : (s.setCsr x).pending = s.pending := rfl
@[simp] theorem State.setLnk_stb (s : State) (x : Link) : (s.setLnk x).stb = s.stb := rfl
@[simp] theorem State.setLnk_cjg (s : State) (x : Link) : (s.setLnk x).cjg = s.cjg := rfl
@[simp] theorem State.setLnk_csr (s : State) (x : Link) : (s.setLnk x).csr = s.csr := rfl
@[simp] theorem State.setLnk_lnk (s : State) (x : Link) : (s.setLnk x).lnk = x := rfl
@[simp] theorem State.setLnk_txq (s : State) (x : Link) : (s.setLnk x).txq = s.txq := rfl
@[simp] theorem State.setLnk_mbr (s : State) (x : Link) : (s.setLnk x).mbr = s.mbr := rfl
@[simp] theorem State.setLnk_zlp (s : State) (x : Link) : (s.setLnk x).zlp = s.zlp := rfl
@[simp] theorem State.setLnk_dcc (s : State) (x : Link) : (s.setLnk x).dcc = s.dcc := rfl
@[simp] theorem State.setLnk_sup (s : State) (x : Link) : (s.setLnk x).sup = s.sup := rfl
@[simp] theorem State.setLnk_cfg (s : State) (x : Link) : (s.setLnk x).cfg = s.cfg := rfl
@[simp] theorem State.setLnk_svc (s : State) (x : Link) : (s.setLnk x).svc = s.svc := rfl
@[simp] theorem State.setLnk_clock (s : State) (x : Link) : (s.setLnk x).clock = s.clock := rfl
@[simp] theorem State.setLnk_freeCount (s : State) (x : Link) : (s.setLnk x).freeCount = s.freeCount := rfl
@[simp] theorem State.setLnk_raised (s : State) (x : Link) : (s.setLnk x).raised = s.raised := rfl
@[simp] theorem State.setLnk_pending (s : State) (x : Link) : (s.setLnk x).pending = s.pending := rfl
@[simp] theorem State.setTxq_stb (s : State) (x : TransmitQueue) : (s.setTxq x).stb = s.stb := rfl
@[simp] theorem State.setTxq_cjg (s : State) (x : TransmitQueue) : (s.setTxq x).cjg = s.cjg := rfl
@[simp] theorem State.setTxq_csr (s : State) (x : TransmitQueue) : (s.setTxq x).csr = s.csr := rfl
@[simp] theorem State.setTxq_lnk (s : State) (x : TransmitQueue) : (s.setTxq x).lnk = s.lnk := rfl
@[simp] theorem State.setTxq_txq (s : State) (x : TransmitQueue) : (s.setTxq x).txq = x := rfl
@[simp] theorem State.setTxq_mbr (s : State) (x : TransmitQueue) : (s.setTxq x).mbr = s.mbr := rfl
@[simp] theorem State.setTxq_zlp (s : State) (x : TransmitQueue) : (s.setTxq x).zlp = s.zlp := rfl
@[simp] theorem State.setTxq_dcc (s : State) (x : TransmitQueue) : (s.setTxq x).dcc = s.dcc := rfl
@[simp] theorem State.setTxq_sup (s : State) (x : TransmitQueue) : (s.setTxq x).sup = s.sup := rfl
@[simp] theorem State.setTxq_cfg (s : State) (x : TransmitQueue) : (s.setTxq x).cfg = s.cfg := rfl
@[simp] theorem State.setTxq_svc (s : State) (x : TransmitQueue) : (s.setTxq x).svc = s.svc := rfl
@[simp] theorem State.setTxq_clock (s : State) (x : TransmitQueue) : (s.setTxq x).clock = s.clock := rfl
@[simp] theorem State.setTxq_freeCount (s : State) (x : TransmitQueue) : (s.setTxq x).freeCount = s.freeCount := rfl
@[simp] theorem State.setTxq_raised (s : State) (x : TransmitQueue) : (s.setTxq x).raised = s.raised := rfl
@[simp] theorem State.setTxq_pending (s : State) (x : TransmitQueue) : (s.setTxq x).pending = s.pending := rfl
@[simp] theorem State.setMbr_stb (s : State) (x : Membership) : (s.setMbr x).stb = s.stb := rfl
@[simp] theorem State.setMbr_cjg (s : State) (x : Membership) : (s.setMbr x).cjg = s.cjg := rfl
@[simp] theorem State.setMbr_csr (s : State) (x : Membership) : (s.setMbr x).csr = s.csr := rfl
@[simp] theorem State.setMbr_lnk (s : State) (x : Membership) : (s.setMbr x).lnk = s.lnk := rfl
@[simp] theorem State.setMbr_txq (s : State) (x : Membership) : (s.setMbr x).txq = s.txq := rfl
@[simp] theorem State.setMbr_mbr (s : State) (x : Membership) : (s.setMbr x).mbr = x := rfl
@[simp] theorem State.setMbr_zlp (s : State) (x : Membership) : (s.setMbr x).zlp = s.zlp := rfl
@[simp] theorem State.setMbr_dcc (s : State) (x : Membership) : (s.setMbr x).dcc = s.dcc := rfl
@[simp] theorem State.setMbr_sup (s : State) (x : Membership) : (s.setMbr x).sup = s.sup := rfl
@[simp] theorem State.setMbr_cfg (s : State) (x : Membership) : (s.setMbr x).cfg = s.cfg := rfl
@[simp] theorem State.setMbr_svc (s : State) (x : Membership) : (s.setMbr x).svc = s.svc := rfl
@[simp] theorem State.setMbr_clock (s : State) (x : Membership) : (s.setMbr x).clock = s.clock := rfl
@[simp] theorem State.setMbr_freeCount (s : State) (x : Membership) : (s.setMbr x).freeCount = s.freeCount := rfl
@[simp] theorem State.setMbr_raised (s : State) (x : Membership) : (s.setMbr x).raised = s.raised := rfl
@[simp] theorem State.setMbr_pending (s : State) (x : Membership) : (s.setMbr x).pending = s.pending := rfl
@[simp] theorem State.setZlp_stb (s : State) (x : ZoneLoop) : (s.setZlp x).stb = s.stb := rfl
@[simp] theorem State.setZlp_cjg (s : State) (x : ZoneLoop) : (s.setZlp x).cjg = s.cjg := rfl
@[simp] theorem State.setZlp_csr (s : State) (x : ZoneLoop) : (s.setZlp x).csr = s.csr := rfl
@[simp] theorem State.setZlp_lnk (s : State) (x : ZoneLoop) : (s.setZlp x).lnk = s.lnk := rfl
@[simp] theorem State.setZlp_txq (s : State) (x : ZoneLoop) : (s.setZlp x).txq = s.txq := rfl
@[simp] theorem State.setZlp_mbr (s : State) (x : ZoneLoop) : (s.setZlp x).mbr = s.mbr := rfl
@[simp] theorem State.setZlp_zlp (s : State) (x : ZoneLoop) : (s.setZlp x).zlp = x := rfl
@[simp] theorem State.setZlp_dcc (s : State) (x : ZoneLoop) : (s.setZlp x).dcc = s.dcc := rfl
@[simp] theorem State.setZlp_sup (s : State) (x : ZoneLoop) : (s.setZlp x).sup = s.sup := rfl
@[simp] theorem State.setZlp_cfg (s : State) (x : ZoneLoop) : (s.setZlp x).cfg = s.cfg := rfl
@[simp] theorem State.setZlp_svc (s : State) (x : ZoneLoop) : (s.setZlp x).svc = s.svc := rfl
@[simp] theorem State.setZlp_clock (s : State) (x : ZoneLoop) : (s.setZlp x).clock = s.clock := rfl
@[simp] theorem State.setZlp_freeCount (s : State) (x : ZoneLoop) : (s.setZlp x).freeCount = s.freeCount := rfl
@[simp] theorem State.setZlp_raised (s : State) (x : ZoneLoop) : (s.setZlp x).raised = s.raised := rfl
@[simp] theorem State.setZlp_pending (s : State) (x : ZoneLoop) : (s.setZlp x).pending = s.pending := rfl
@[simp] theorem State.setDcc_stb (s : State) (x : Drives) : (s.setDcc x).stb = s.stb := rfl
@[simp] theorem State.setDcc_cjg (s : State) (x : Drives) : (s.setDcc x).cjg = s.cjg := rfl
@[simp] theorem State.setDcc_csr (s : State) (x : Drives) : (s.setDcc x).csr = s.csr := rfl
@[simp] theorem State.setDcc_lnk (s : State) (x : Drives) : (s.setDcc x).lnk = s.lnk := rfl
@[simp] theorem State.setDcc_txq (s : State) (x : Drives) : (s.setDcc x).txq = s.txq := rfl
@[simp] theorem State.setDcc_mbr (s : State) (x : Drives) : (s.setDcc x).mbr = s.mbr := rfl
@[simp] theorem State.setDcc_zlp (s : State) (x : Drives) : (s.setDcc x).zlp = s.zlp := rfl
@[simp] theorem State.setDcc_dcc (s : State) (x : Drives) : (s.setDcc x).dcc = x := rfl
@[simp] theorem State.setDcc_sup (s : State) (x : Drives) : (s.setDcc x).sup = s.sup := rfl
@[simp] theorem State.setDcc_cfg (s : State) (x : Drives) : (s.setDcc x).cfg = s.cfg := rfl
@[simp] theorem State.setDcc_svc (s : State) (x : Drives) : (s.setDcc x).svc = s.svc := rfl
@[simp] theorem State.setDcc_clock (s : State) (x : Drives) : (s.setDcc x).clock = s.clock := rfl
@[simp] theorem State.setDcc_freeCount (s : State) (x : Drives) : (s.setDcc x).freeCount = s.freeCount := rfl
@[simp] theorem State.setDcc_raised (s : State) (x : Drives) : (s.setDcc x).raised = s.raised := rfl
@[simp] theorem State.setDcc_pending (s : State) (x : Drives) : (s.setDcc x).pending = s.pending := rfl
@[simp] theorem State.setSup_stb (s : State) (x : Supply) : (s.setSup x).stb = s.stb := rfl
@[simp] theorem State.setSup_cjg (s : State) (x : Supply) : (s.setSup x).cjg = s.cjg := rfl
@[simp] theorem State.setSup_csr (s : State) (x : Supply) : (s.setSup x).csr = s.csr := rfl
@[simp] theorem State.setSup_lnk (s : State) (x : Supply) : (s.setSup x).lnk = s.lnk := rfl
@[simp] theorem State.setSup_txq (s : State) (x : Supply) : (s.setSup x).txq = s.txq := rfl
@[simp] theorem State.setSup_mbr (s : State) (x : Supply) : (s.setSup x).mbr = s.mbr := rfl
@[simp] theorem State.setSup_zlp (s : State) (x : Supply) : (s.setSup x).zlp = s.zlp := rfl
@[simp] theorem State.setSup_dcc (s : State) (x : Supply) : (s.setSup x).dcc = s.dcc := rfl
@[simp] theorem State.setSup_sup (s : State) (x : Supply) : (s.setSup x).sup = x := rfl
@[simp] theorem State.setSup_cfg (s : State) (x : Supply) : (s.setSup x).cfg = s.cfg := rfl
@[simp] theorem State.setSup_svc (s : State) (x : Supply) : (s.setSup x).svc = s.svc := rfl
@[simp] theorem State.setSup_clock (s : State) (x : Supply) : (s.setSup x).clock = s.clock := rfl
@[simp] theorem State.setSup_freeCount (s : State) (x : Supply) : (s.setSup x).freeCount = s.freeCount := rfl
@[simp] theorem State.setSup_raised (s : State) (x : Supply) : (s.setSup x).raised = s.raised := rfl
@[simp] theorem State.setSup_pending (s : State) (x : Supply) : (s.setSup x).pending = s.pending := rfl
@[simp] theorem State.setCfg_stb (s : State) (x : ConfigReader) : (s.setCfg x).stb = s.stb := rfl
@[simp] theorem State.setCfg_cjg (s : State) (x : ConfigReader) : (s.setCfg x).cjg = s.cjg := rfl
@[simp] theorem State.setCfg_csr (s : State) (x : ConfigReader) : (s.setCfg x).csr = s.csr := rfl
@[simp] theorem State.setCfg_lnk (s : State) (x : ConfigReader) : (s.setCfg x).lnk = s.lnk := rfl
@[simp] theorem State.setCfg_txq (s : State) (x : ConfigReader) : (s.setCfg x).txq = s.txq := rfl
@[simp] theorem State.setCfg_mbr (s : State) (x : ConfigReader) : (s.setCfg x).mbr = s.mbr := rfl
@[simp] theorem State.setCfg_zlp (s : State) (x : ConfigReader) : (s.setCfg x).zlp = s.zlp := rfl
@[simp] theorem State.setCfg_dcc (s : State) (x : ConfigReader) : (s.setCfg x).dcc = s.dcc := rfl
@[simp] theorem State.setCfg_sup (s : State) (x : ConfigReader) : (s.setCfg x).sup = s.sup := rfl
@[simp] theorem State.setCfg_cfg (s : State) (x : ConfigReader) : (s.setCfg x).cfg = x := rfl
@[simp] theorem State.setCfg_svc (s : State) (x : ConfigReader) : (s.setCfg x).svc = s.svc := rfl
@[simp] theorem State.setCfg_clock (s : State) (x : ConfigReader) : (s.setCfg x).clock = s.clock := rfl
@[simp] theorem State.setCfg_freeCount (s : State) (x : ConfigReader) : (s.setCfg x).freeCount = s.freeCount := rfl
@[simp] theorem State.setCfg_raised (s : State) (x : ConfigReader) : (s.setCfg x).raised = s.raised := rfl
@[simp] theorem State.setCfg_pending (s : State) (x : ConfigReader) : (s.setCfg x).pending = s.pending := rfl
@[simp] theorem State.setSvc_stb (s : State) (x : ServiceLine) : (s.setSvc x).stb = s.stb := rfl
@[simp] theorem State.setSvc_cjg (s : State) (x : ServiceLine) : (s.setSvc x).cjg = s.cjg := rfl
@[simp] theorem State.setSvc_csr (s : State) (x : ServiceLine) : (s.setSvc x).csr = s.csr := rfl
@[simp] theorem State.setSvc_lnk (s : State) (x : ServiceLine) : (s.setSvc x).lnk = s.lnk := rfl
@[simp] theorem State.setSvc_txq (s : State) (x : ServiceLine) : (s.setSvc x).txq = s.txq := rfl
@[simp] theorem State.setSvc_mbr (s : State) (x : ServiceLine) : (s.setSvc x).mbr = s.mbr := rfl
@[simp] theorem State.setSvc_zlp (s : State) (x : ServiceLine) : (s.setSvc x).zlp = s.zlp := rfl
@[simp] theorem State.setSvc_dcc (s : State) (x : ServiceLine) : (s.setSvc x).dcc = s.dcc := rfl
@[simp] theorem State.setSvc_sup (s : State) (x : ServiceLine) : (s.setSvc x).sup = s.sup := rfl
@[simp] theorem State.setSvc_cfg (s : State) (x : ServiceLine) : (s.setSvc x).cfg = s.cfg := rfl
@[simp] theorem State.setSvc_svc (s : State) (x : ServiceLine) : (s.setSvc x).svc = x := rfl
@[simp] theorem State.setSvc_clock (s : State) (x : ServiceLine) : (s.setSvc x).clock = s.clock := rfl
@[simp] theorem State.setSvc_freeCount (s : State) (x : ServiceLine) : (s.setSvc x).freeCount = s.freeCount := rfl
@[simp] theorem State.setSvc_raised (s : State) (x : ServiceLine) : (s.setSvc x).raised = s.raised := rfl
@[simp] theorem State.setSvc_pending (s : State) (x : ServiceLine) : (s.setSvc x).pending = s.pending := rfl
@[simp] theorem State.setClock_stb (s : State) (x : Nat) : (s.setClock x).stb = s.stb := rfl
@[simp] theorem State.setClock_cjg (s : State) (x : Nat) : (s.setClock x).cjg = s.cjg := rfl
@[simp] theorem State.setClock_csr (s : State) (x : Nat) : (s.setClock x).csr = s.csr := rfl
@[simp] theorem State.setClock_lnk (s : State) (x : Nat) : (s.setClock x).lnk = s.lnk := rfl
@[simp] theorem State.setClock_txq (s : State) (x : Nat) : (s.setClock x).txq = s.txq := rfl
@[simp] theorem State.setClock_mbr (s : State) (x : Nat) : (s.setClock x).mbr = s.mbr := rfl
@[simp] theorem State.setClock_zlp (s : State) (x : Nat) : (s.setClock x).zlp = s.zlp := rfl
@[simp] theorem State.setClock_dcc (s : State) (x : Nat) : (s.setClock x).dcc = s.dcc := rfl
@[simp] theorem State.setClock_sup (s : State) (x : Nat) : (s.setClock x).sup = s.sup := rfl
@[simp] theorem State.setClock_cfg (s : State) (x : Nat) : (s.setClock x).cfg = s.cfg := rfl
@[simp] theorem State.setClock_svc (s : State) (x : Nat) : (s.setClock x).svc = s.svc := rfl
@[simp] theorem State.setClock_clock (s : State) (x : Nat) : (s.setClock x).clock = x := rfl
@[simp] theorem State.setClock_freeCount (s : State) (x : Nat) : (s.setClock x).freeCount = s.freeCount := rfl
@[simp] theorem State.setClock_raised (s : State) (x : Nat) : (s.setClock x).raised = s.raised := rfl
@[simp] theorem State.setClock_pending (s : State) (x : Nat) : (s.setClock x).pending = s.pending := rfl
@[simp] theorem State.setFreeCount_stb (s : State) (x : Nat) : (s.setFreeCount x).stb = s.stb := rfl
@[simp] theorem State.setFreeCount_cjg (s : State) (x : Nat) : (s.setFreeCount x).cjg = s.cjg := rfl
@[simp] theorem State.setFreeCount_csr (s : State) (x : Nat) : (s.setFreeCount x).csr = s.csr := rfl
@[simp] theorem State.setFreeCount_lnk (s : State) (x : Nat) : (s.setFreeCount x).lnk = s.lnk := rfl
@[simp] theorem State.setFreeCount_txq (s : State) (x : Nat) : (s.setFreeCount x).txq = s.txq := rfl
@[simp] theorem State.setFreeCount_mbr (s : State) (x : Nat) : (s.setFreeCount x).mbr = s.mbr := rfl
@[simp] theorem State.setFreeCount_zlp (s : State) (x : Nat) : (s.setFreeCount x).zlp = s.zlp := rfl
@[simp] theorem State.setFreeCount_dcc (s : State) (x : Nat) : (s.setFreeCount x).dcc = s.dcc := rfl
@[simp] theorem State.setFreeCount_sup (s : State) (x : Nat) : (s.setFreeCount x).sup = s.sup := rfl
@[simp] theorem State.setFreeCount_cfg (s : State) (x : Nat) : (s.setFreeCount x).cfg = s.cfg := rfl
@[simp] theorem State.setFreeCount_svc (s : State) (x : Nat) : (s.setFreeCount x).svc = s.svc := rfl
@[simp] theorem State.setFreeCount_clock (s : State) (x : Nat) : (s.setFreeCount x).clock = s.clock := rfl
@[simp] theorem State.setFreeCount_freeCount (s : State) (x : Nat) : (s.setFreeCount x).freeCount = x := rfl
@[simp] theorem State.setFreeCount_raised (s : State) (x : Nat) : (s.setFreeCount x).raised = s.raised := rfl
@[simp] theorem State.setFreeCount_pending (s : State) (x : Nat) : (s.setFreeCount x).pending = s.pending := rfl
@[simp] theorem State.setRaised_stb (s : State) (x : List Raised) : (s.setRaised x).stb = s.stb := rfl
@[simp] theorem State.setRaised_cjg (s : State) (x : List Raised) : (s.setRaised x).cjg = s.cjg := rfl
@[simp] theorem State.setRaised_csr (s : State) (x : List Raised) : (s.setRaised x).csr = s.csr := rfl
@[simp] theorem State.setRaised_lnk (s : State) (x : List Raised) : (s.setRaised x).lnk = s.lnk := rfl
@[simp] theorem State.setRaised_txq (s : State) (x : List Raised) : (s.setRaised x).txq = s.txq := rfl
@[simp] theorem State.setRaised_mbr (s : State) (x : List Raised) : (s.setRaised x).mbr = s.mbr := rfl
@[simp] theorem State.setRaised_zlp (s : State) (x : List Raised) : (s.setRaised x).zlp = s.zlp := rfl
@[simp] theorem State.setRaised_dcc (s : State) (x : List Raised) : (s.setRaised x).dcc = s.dcc := rfl
@[simp] theorem State.setRaised_sup (s : State) (x : List Raised) : (s.setRaised x).sup = s.sup := rfl
@[simp] theorem State.setRaised_cfg (s : State) (x : List Raised) : (s.setRaised x).cfg = s.cfg := rfl
@[simp] theorem State.setRaised_svc (s : State) (x : List Raised) : (s.setRaised x).svc = s.svc := rfl
@[simp] theorem State.setRaised_clock (s : State) (x : List Raised) : (s.setRaised x).clock = s.clock := rfl
@[simp] theorem State.setRaised_freeCount (s : State) (x : List Raised) : (s.setRaised x).freeCount = s.freeCount := rfl
@[simp] theorem State.setRaised_raised (s : State) (x : List Raised) : (s.setRaised x).raised = x := rfl
@[simp] theorem State.setRaised_pending (s : State) (x : List Raised) : (s.setRaised x).pending = s.pending := rfl
@[simp] theorem State.setPending_stb (s : State) (x : List Instr) : (s.setPending x).stb = s.stb := rfl
@[simp] theorem State.setPending_cjg (s : State) (x : List Instr) : (s.setPending x).cjg = s.cjg := rfl
@[simp] theorem State.setPending_csr (s : State) (x : List Instr) : (s.setPending x).csr = s.csr := rfl
@[simp] theorem State.setPending_lnk (s : State) (x : List Instr) : (s.setPending x).lnk = s.lnk := rfl
@[simp] theorem State.setPending_txq (s : State) (x : List Instr) : (s.setPending x).txq = s.txq := rfl
@[simp] theorem State.setPending_mbr (s : State) (x : List Instr) : (s.setPending x).mbr = s.mbr := rfl
@[simp] theorem State.setPending_zlp (s : State) (x : List Instr) : (s.setPending x).zlp = s.zlp := rfl
@[simp] theorem State.setPending_dcc (s : State) (x : List Instr) : (s.setPending x).dcc = s.dcc := rfl
@[simp] theorem State.setPending_sup (s : State) (x : List Instr) : (s.setPending x).sup = s.sup := rfl
@[simp] theorem State.setPending_cfg (s : State) (x : List Instr) : (s.setPending x).cfg = s.cfg := rfl
@[simp] theorem State.setPending_svc (s : State) (x : List Instr) : (s.setPending x).svc = s.svc := rfl
@[simp] theorem State.setPending_clock (s : State) (x : List Instr) : (s.setPending x).clock = s.clock := rfl
@[simp] theorem State.setPending_freeCount (s : State) (x : List Instr) : (s.setPending x).freeCount = s.freeCount := rfl
@[simp] theorem State.setPending_raised (s : State) (x : List Instr) : (s.setPending x).raised = s.raised := rfl
@[simp] theorem State.setPending_pending (s : State) (x : List Instr) : (s.setPending x).pending = x := rfl

/-! ### The last of two updates of one block stands, and an update by what stands changes nothing -/

@[simp] theorem State.setStb_setStb (s : State) (x y : ShareTable) : (s.setStb x).setStb y = s.setStb y := rfl
@[simp] theorem State.setStb_self (s : State) : s.setStb s.stb = s := rfl
@[simp] theorem State.setCjg_setCjg (s : State) (x y : ClaimJudge) : (s.setCjg x).setCjg y = s.setCjg y := rfl
@[simp] theorem State.setCjg_self (s : State) : s.setCjg s.cjg = s := rfl
@[simp] theorem State.setCsr_setCsr (s : State) (x y : Records) : (s.setCsr x).setCsr y = s.setCsr y := rfl
@[simp] theorem State.setCsr_self (s : State) : s.setCsr s.csr = s := rfl
@[simp] theorem State.setLnk_setLnk (s : State) (x y : Link) : (s.setLnk x).setLnk y = s.setLnk y := rfl
@[simp] theorem State.setLnk_self (s : State) : s.setLnk s.lnk = s := rfl
@[simp] theorem State.setTxq_setTxq (s : State) (x y : TransmitQueue) : (s.setTxq x).setTxq y = s.setTxq y := rfl
@[simp] theorem State.setTxq_self (s : State) : s.setTxq s.txq = s := rfl
@[simp] theorem State.setMbr_setMbr (s : State) (x y : Membership) : (s.setMbr x).setMbr y = s.setMbr y := rfl
@[simp] theorem State.setMbr_self (s : State) : s.setMbr s.mbr = s := rfl
@[simp] theorem State.setZlp_setZlp (s : State) (x y : ZoneLoop) : (s.setZlp x).setZlp y = s.setZlp y := rfl
@[simp] theorem State.setZlp_self (s : State) : s.setZlp s.zlp = s := rfl
@[simp] theorem State.setDcc_setDcc (s : State) (x y : Drives) : (s.setDcc x).setDcc y = s.setDcc y := rfl
@[simp] theorem State.setDcc_self (s : State) : s.setDcc s.dcc = s := rfl
@[simp] theorem State.setSup_setSup (s : State) (x y : Supply) : (s.setSup x).setSup y = s.setSup y := rfl
@[simp] theorem State.setSup_self (s : State) : s.setSup s.sup = s := rfl
@[simp] theorem State.setCfg_setCfg (s : State) (x y : ConfigReader) : (s.setCfg x).setCfg y = s.setCfg y := rfl
@[simp] theorem State.setCfg_self (s : State) : s.setCfg s.cfg = s := rfl
@[simp] theorem State.setSvc_setSvc (s : State) (x y : ServiceLine) : (s.setSvc x).setSvc y = s.setSvc y := rfl
@[simp] theorem State.setSvc_self (s : State) : s.setSvc s.svc = s := rfl
@[simp] theorem State.setClock_setClock (s : State) (x y : Nat) : (s.setClock x).setClock y = s.setClock y := rfl
@[simp] theorem State.setClock_self (s : State) : s.setClock s.clock = s := rfl
@[simp] theorem State.setFreeCount_setFreeCount (s : State) (x y : Nat) : (s.setFreeCount x).setFreeCount y = s.setFreeCount y := rfl
@[simp] theorem State.setFreeCount_self (s : State) : s.setFreeCount s.freeCount = s := rfl
@[simp] theorem State.setRaised_setRaised (s : State) (x y : List Raised) : (s.setRaised x).setRaised y = s.setRaised y := rfl
@[simp] theorem State.setRaised_self (s : State) : s.setRaised s.raised = s := rfl
@[simp] theorem State.setPending_setPending (s : State) (x y : List Instr) : (s.setPending x).setPending y = s.setPending y := rfl
@[simp] theorem State.setPending_self (s : State) : s.setPending s.pending = s := rfl

end Sys2Proof.Machine
end

