-- ==== Sys2Proof/Laws/Notices.lean ====
section
/-! SUPPORT. What the notices of a change can touch: the self entry, the judge, the queue, the Zone Loop, the duty channels and the events raised. Everything else stands. -/

namespace Sys2Proof.Machine

/-- `t` differs from `s` at most in the self entry, `cjg`, `txq`, `zlp`, `raised` and the duty channels with the blower's watch. -/
structure NoticeOnly (s t : State) : Prop where
  stb : t.stb = { s.stb with self := t.stb.self }
  csr : t.csr = s.csr
  lnk : t.lnk = s.lnk
  mbr : t.mbr = s.mbr
  sup : t.sup = s.sup
  cfg : t.cfg = s.cfg
  svc : t.svc = s.svc
  clock : t.clock = s.clock
  freeCount : t.freeCount = s.freeCount
  pending : t.pending = s.pending
  damper : t.dcc.damper = s.dcc.damper
  condition : t.dcc.fan.condition = s.dcc.fan.condition

theorem NoticeOnly.refl (s : State) : NoticeOnly s s := by constructor <;> rfl

theorem NoticeOnly.trans {s t u : State} (h : NoticeOnly s t) (k : NoticeOnly t u) :
    NoticeOnly s u := by
  constructor
  · rw [k.stb, h.stb]
  · rw [k.csr, h.csr]
  · rw [k.lnk, h.lnk]
  · rw [k.mbr, h.mbr]
  · rw [k.sup, h.sup]
  · rw [k.cfg, h.cfg]
  · rw [k.svc, h.svc]
  · rw [k.clock, h.clock]
  · rw [k.freeCount, h.freeCount]
  · rw [k.pending, h.pending]
  · rw [k.damper, h.damper]
  · rw [k.condition, h.condition]

/-- The order of the table stands. -/
theorem NoticeOnly.order {s t : State} (h : NoticeOnly s t) : t.stb.order = s.stb.order := by
  rw [h.stb]

theorem ask_notice (s : State) (i : Intent) : NoticeOnly s (s.ask i) := by constructor <;> rfl

theorem raise_notice (s : State) (o : Origin) (k : EventKind) (p : Option Nat)
    (r : Option Resource) (v : Option Nat) : NoticeOnly s (s.raise o k p r v) := by
  constructor <;> rfl

theorem mapSelf_notice (s : State) (f : Entry → Entry) : NoticeOnly s (s.mapSelf f) := by
  constructor <;> rfl

theorem setZlp_notice (s : State) (z : ZoneLoop) : NoticeOnly s (s.setZlp z) := by
  constructor <;> rfl

theorem setCjg_notice (s : State) (c : ClaimJudge) : NoticeOnly s (s.setCjg c) := by
  constructor <;> rfl

theorem setTarget_notice (s : State) (r : Resource) (t : Option Nat) :
    NoticeOnly s (s.setTarget r t) := setCjg_notice s _

theorem setOverdraw_notice (s : State) (r : Resource) (b : Bool) :
    NoticeOnly s (s.setOverdraw r b) := setCjg_notice s _

theorem forceRelease_notice (s : State) (r : Resource) (t : Nat) :
    NoticeOnly s (s.forceRelease r t) := by
  unfold State.forceRelease
  split
  · exact .refl s
  · split
    · exact ask_notice s _
    · exact .refl s

/-! ### The channels -/

@[simp] theorem setChannel_damper (d : Drives) (ch : DutyChannel) (c : Channel) :
    (d.setChannel ch c).damper = d.damper := by cases ch <;> rfl

@[simp] theorem setChannel_fan (d : Drives) (ch : DutyChannel) (c : Channel) :
    (d.setChannel ch c).fan = d.fan := by cases ch <;> rfl

@[simp] theorem setDuties_damper (d : Drives) (ch : DutyChannel) (n : Nat) :
    (d.setDuties ch n).damper = d.damper := by simp [Drives.setDuties]

@[simp] theorem setDuties_fan (d : Drives) (ch : DutyChannel) (n : Nat) :
    (d.setDuties ch n).fan = d.fan := by simp [Drives.setDuties]

@[simp] theorem switchOff_damper (d : Drives) (ch : DutyChannel) (k : Nat) :
    (d.switchOff ch k).damper = d.damper := by
  cases ch <;> simp only [Drives.switchOff] <;> (try split) <;> simp

@[simp] theorem switchOff_fan (d : Drives) (ch : DutyChannel) (k : Nat) :
    (d.switchOff ch k).fan = d.fan := by
  cases ch <;> simp only [Drives.switchOff] <;> (try split) <;> simp

@[simp] theorem forceOff_damper (d : Drives) (ch : DutyChannel) (k : Nat) :
    (d.forceOff ch k).damper = d.damper := by cases ch <;> simp [Drives.forceOff]

@[simp] theorem forceOff_fan (d : Drives) (ch : DutyChannel) (k : Nat) :
    (d.forceOff ch k).fan = d.fan := by cases ch <;> simp [Drives.forceOff]

@[simp] theorem cut_damper (d : Drives) (ch : DutyChannel) (n k : Nat) :
    (d.cut ch n k).damper = d.damper := by simp only [Drives.cut]; split <;> simp

@[simp] theorem cut_fan (d : Drives) (ch : DutyChannel) (n k : Nat) :
    (d.cut ch n k).fan = d.fan := by simp only [Drives.cut]; split <;> simp

@[simp] theorem pushCap_damper (d : Drives) (ch : DutyChannel) (n : Nat) (b : Bool) (k : Nat) :
    (d.pushCap ch n b k).damper = d.damper := by
  simp only [Drives.pushCap]; repeat' split
  all_goals simp

@[simp] theorem pushCap_fan (d : Drives) (ch : DutyChannel) (n : Nat) (b : Bool) (k : Nat) :
    (d.pushCap ch n b k).fan = d.fan := by
  simp only [Drives.pushCap]; repeat' split
  all_goals simp

@[simp] theorem rewatch_damper (d : Drives) (b : Bool) (k : Nat) :
    (d.rewatch b k).damper = d.damper := by
  simp only [Drives.rewatch]; repeat' split
  all_goals rfl

@[simp] theorem rewatch_condition (d : Drives) (b : Bool) (k : Nat) :
    (d.rewatch b k).fan.condition = d.fan.condition := by
  simp only [Drives.rewatch]; repeat' split
  all_goals rfl

/-- A change of the channels that leaves the damper and the blower's condition is a notice. -/
theorem changeDrives_notice (s : State) (f : Drives → Drives) (h : (f s.dcc).damper = s.dcc.damper)
    (k : (f s.dcc).fan = s.dcc.fan) : NoticeOnly s (s.changeDrives f) := by
  constructor <;> simp [State.changeDrives, h, k]

theorem pushCaps_notice (s : State) (c : Caps) : NoticeOnly s (s.pushCaps c) :=
  changeDrives_notice s _ (by simp) (by simp)

theorem forceAllOff_notice (s : State) : NoticeOnly s s.forceAllOff :=
  changeDrives_notice s _ (by simp) (by simp)

/-! ### Caps, targets, cuts, overdraw -/

theorem evalInterlock_notice (s : State) (img : Image) (e : Entry) :
    NoticeOnly s (s.evalInterlock img e) := by
  unfold State.evalInterlock
  split
  · have h : NoticeOnly s ((s.setZlp { s.zlp with interlock := true }).mapSelf
        Entry.withoutValves) := (setZlp_notice s _).trans (mapSelf_notice _ _)
    dsimp only
    split
    · exact (h.trans (forceRelease_notice _ _ _)).trans (forceRelease_notice _ _ _)
    · exact h
  · exact setZlp_notice s _

theorem recomputeCaps_notice (s : State) : NoticeOnly s s.recomputeCaps := by
  unfold State.recomputeCaps
  split
  · dsimp only
    split
    · exact (evalInterlock_notice s _ _).trans (pushCaps_notice _ _)
    · exact evalInterlock_notice s _ _
  · exact .refl s

theorem dropTarget_notice (s : State) (r : Resource) : NoticeOnly s (s.dropTarget r) :=
  (setTarget_notice s r none).trans (recomputeCaps_notice _)

theorem offerTarget_notice (s : State) (r : Resource) (t : Nat) :
    NoticeOnly s (s.offerTarget r t) := by
  unfold State.offerTarget
  split
  · exact ((setTarget_notice s r (some t)).trans (recomputeCaps_notice _)).trans (ask_notice _ _)
  · exact .refl s

theorem computeCut_notice (s : State) (r : Resource) : NoticeOnly s (s.computeCut r) := by
  unfold State.computeCut
  split
  · exact .refl s
  · dsimp only
    split
    · exact offerTarget_notice s _ _
    · exact .refl s

theorem evalOverdraw_notice (s : State) (r : Resource) : NoticeOnly s (s.evalOverdraw r) := by
  unfold State.evalOverdraw
  dsimp only
  split
  · split
    · exact .refl s
    · have h := (setOverdraw_notice s r true).trans
        (raise_notice _ { block := .cjg, slot := resourceCode r } .overdrawBegin none (some r)
          (some (s.stb.total r - (s.csr.capacity.get r).value)))
      split
      · exact h.trans (computeCut_notice _ r)
      · exact h
  · split
    · exact (setOverdraw_notice s r false).trans (raise_notice _ _ _ _ _ _)
    · exact .refl s

theorem tableChanged_notice (s : State) : NoticeOnly s s.tableChanged :=
  ((evalOverdraw_notice s .cool).trans (evalOverdraw_notice _ .heat)).trans
    (evalOverdraw_notice _ .power)

theorem selfChanged_notice (s : State) : NoticeOnly s s.selfChanged :=
  (tableChanged_notice s).trans (recomputeCaps_notice _)

/-! ### Shed and blower -/

theorem shedNow_notice (s : State) : NoticeOnly s s.shedNow := by
  unfold State.shedNow
  split
  · exact ((setZlp_notice s _).trans (mapSelf_notice _ _)).trans (forceRelease_notice _ _ _)
  · exact .refl s

theorem shedGuard_notice (s : State) : NoticeOnly s s.shedGuard := by
  unfold State.shedGuard
  split
  · split
    · exact forceRelease_notice s _ _
    · exact .refl s
  · exact .refl s

theorem setShed_notice (s : State) (b : Bool) : NoticeOnly s (s.setShed b) := by
  unfold State.setShed
  split
  · exact .refl s
  · dsimp only
    have h1 := mapSelf_notice s fun e => { e with shed := b }
    generalize s.mapSelf (fun e => { e with shed := b }) = s1 at h1 ⊢
    have h2 : NoticeOnly s (if (b && s1.isMember) = true then s1.shedNow else s1) := by
      split
      · exact h1.trans (shedNow_notice s1)
      · exact h1
    generalize (if (b && s1.isMember) = true then s1.shedNow else s1) = s2 at h2 ⊢
    have h3 : NoticeOnly s (if s2.mbr.station.drives = true then s2.ask .state else s2) := by
      split
      · exact h2.trans (ask_notice s2 _)
      · exact h2
    exact h3.trans (selfChanged_notice _)

theorem blowerStopped_notice (s : State) : NoticeOnly s s.blowerStopped :=
  (((((setZlp_notice s _).trans (mapSelf_notice _ _)).trans (forceRelease_notice _ _ _)).trans
    (forceRelease_notice _ _ _)).trans (forceRelease_notice _ _ _)).trans (recomputeCaps_notice _)

theorem blowerReport_notice (s : State) : NoticeOnly s s.blowerReport := by
  unfold State.blowerReport
  split
  · exact blowerStopped_notice s
  · exact recomputeCaps_notice s

end Sys2Proof.Machine
end

