-- ==== Sys2Proof/Laws/Caps.lean ====
section
/-! SUPPORT. What a recomputation of the caps, a notice of a table change and a notice of a change of the self entry can do, said once: CapsOnly and TableNotice, and that the overdraw flags agree after a notice. -/

namespace Sys2Proof.Machine

/-- `t` differs from `s` at most in the interlock with the demands it zeroes, the intents, the duty channels and the blower's watch. -/
structure CapsOnly (s t : State) : Prop where
  notice : NoticeOnly s t
  cjg : t.cjg = s.cjg
  raised : t.raised = s.raised
  zlp : t.zlp = { s.zlp with interlock := t.zlp.interlock }
  txq : t.txq = { s.txq with intents := t.txq.intents, replacements := t.txq.replacements }
  self : s.SelfStands t

theorem withoutValves_twice (e : Entry) : e.withoutValves.withoutValves = e.withoutValves := rfl

theorem SelfStands.trans {s t u : State} (h : s.SelfStands t) (k : t.SelfStands u) :
    s.SelfStands u := by
  unfold State.SelfStands at *
  rcases h with h | h <;> rcases k with k | k <;> rw [k, h]
  · exact Or.inl rfl
  · exact Or.inr rfl
  · exact Or.inr rfl
  · right; cases s.stb.self <;> rfl

theorem CapsOnly.refl (s : State) : CapsOnly s s :=
  ⟨.refl s, rfl, rfl, rfl, rfl, Or.inl rfl⟩

theorem CapsOnly.trans {s t u : State} (h : CapsOnly s t) (k : CapsOnly t u) : CapsOnly s u where
  notice := h.notice.trans k.notice
  cjg := k.cjg.trans h.cjg
  raised := k.raised.trans h.raised
  zlp := by rw [k.zlp, h.zlp]
  txq := by rw [k.txq, h.txq]
  self := SelfStands.trans h.self k.self

theorem ask_caps (s : State) (i : Intent) : CapsOnly s (s.ask i) where
  notice := ask_notice s i
  cjg := rfl
  raised := rfl
  zlp := rfl
  txq := by simp only [State.ask, TransmitQueue.ask]; split <;> rfl
  self := Or.inl rfl

theorem forceRelease_caps (s : State) (r : Resource) (t : Nat) :
    CapsOnly s (s.forceRelease r t) := by
  unfold State.forceRelease
  split
  · exact .refl s
  · split
    · exact ask_caps s _
    · exact .refl s

theorem pushCaps_caps (s : State) (c : Caps) : CapsOnly s (s.pushCaps c) :=
  ⟨pushCaps_notice s c, rfl, rfl, rfl, rfl, Or.inl rfl⟩

/-- The interlock found standing, before its forced releases. -/
theorem interlocked_caps (s : State) :
    CapsOnly s ((s.setZlp { s.zlp with interlock := true }).mapSelf Entry.withoutValves) where
  notice := (setZlp_notice s _).trans (mapSelf_notice _ _)
  cjg := rfl
  raised := rfl
  zlp := rfl
  txq := rfl
  self := Or.inr rfl

theorem evalInterlock_caps (s : State) (img : Image) (e : Entry) :
    CapsOnly s (s.evalInterlock img e) := by
  unfold State.evalInterlock
  split
  · dsimp only; split
    · exact ((interlocked_caps s).trans (forceRelease_caps _ _ _)).trans (forceRelease_caps _ _ _)
    · exact interlocked_caps s
  · exact ⟨setZlp_notice s _, rfl, rfl, rfl, rfl, Or.inl rfl⟩

/-- R143: what a recomputation of the caps can do. -/
theorem recomputeCaps_caps (s : State) : CapsOnly s s.recomputeCaps := by
  unfold State.recomputeCaps
  split
  · dsimp only; split
    · exact (evalInterlock_caps s _ _).trans (pushCaps_caps _ _)
    · exact evalInterlock_caps s _ _
  · exact .refl s

/-! ### Notices of a table change -/

/-- `t` differs from `s` at most as CapsOnly says, in the overdraw flags and the release targets, and in events added at the end. -/
structure TableNotice (s t : State) : Prop where
  notice : NoticeOnly s t
  zlp : t.zlp = { s.zlp with interlock := t.zlp.interlock }
  txq : t.txq = { s.txq with intents := t.txq.intents, replacements := t.txq.replacements }
  self : s.SelfStands t
  request : t.cjg.ownRequest = s.cjg.ownRequest
  veto : t.cjg.lastVeto = s.cjg.lastVeto

theorem TableNotice.refl (s : State) : TableNotice s s :=
  ⟨.refl s, rfl, rfl, Or.inl rfl, rfl, rfl⟩

theorem TableNotice.trans {s t u : State} (h : TableNotice s t) (k : TableNotice t u) :
    TableNotice s u where
  notice := h.notice.trans k.notice
  zlp := by rw [k.zlp, h.zlp]
  txq := by rw [k.txq, h.txq]
  self := SelfStands.trans h.self k.self
  request := k.request.trans h.request
  veto := k.veto.trans h.veto

theorem CapsOnly.table {s t : State} (h : CapsOnly s t) : TableNotice s t :=
  ⟨h.notice, h.zlp, h.txq, h.self, by rw [h.cjg], by rw [h.cjg]⟩

theorem setTarget_table (s : State) (r : Resource) (t : Option Nat) :
    TableNotice s (s.setTarget r t) :=
  ⟨setTarget_notice s r t, rfl, rfl, Or.inl rfl, rfl, rfl⟩

theorem setOverdraw_table (s : State) (r : Resource) (b : Bool) :
    TableNotice s (s.setOverdraw r b) :=
  ⟨setOverdraw_notice s r b, rfl, rfl, Or.inl rfl, rfl, rfl⟩

theorem raise_table (s : State) (o : Origin) (k : EventKind) (p : Option Nat)
    (r : Option Resource) (v : Option Nat) : TableNotice s (s.raise o k p r v) :=
  ⟨raise_notice s o k p r v, rfl, rfl, Or.inl rfl, rfl, rfl⟩

theorem offerTarget_table (s : State) (r : Resource) (t : Nat) :
    TableNotice s (s.offerTarget r t) := by
  unfold State.offerTarget
  split
  · exact ((setTarget_table s r _).trans (recomputeCaps_caps _).table).trans (ask_caps _ _).table
  · exact .refl s

theorem computeCut_table (s : State) (r : Resource) : TableNotice s (s.computeCut r) := by
  unfold State.computeCut
  split
  · exact .refl s
  · dsimp only; split
    · exact offerTarget_table s r _
    · exact .refl s

theorem evalOverdraw_table (s : State) (r : Resource) : TableNotice s (s.evalOverdraw r) := by
  unfold State.evalOverdraw
  dsimp only
  split
  · split
    · exact .refl s
    · have h := (setOverdraw_table s r true).trans
        (raise_table _ { block := .cjg, slot := resourceCode r } .overdrawBegin none (some r)
          (some (s.stb.total r - (s.csr.capacity.get r).value)))
      split
      · exact h.trans (computeCut_table _ r)
      · exact h
  · split
    · exact (setOverdraw_table s r false).trans (raise_table _ _ _ _ _ _)
    · exact .refl s

/-- R19: what the notice of a table change can do. -/
theorem tableChanged_table (s : State) : TableNotice s s.tableChanged :=
  ((evalOverdraw_table s _).trans (evalOverdraw_table _ _)).trans (evalOverdraw_table _ _)

/-- R19, R143: what the notices of a change of the self entry can do. -/
theorem selfChanged_table (s : State) : TableNotice s s.selfChanged :=
  (tableChanged_table s).trans (recomputeCaps_caps _).table

/-! ### The overdraw flags after a notice -/

/-- No notice changes a total. -/
theorem SelfStands.total {s t : State} (h : NoticeOnly s t) (k : s.SelfStands t) (r : Resource) :
    t.stb.total r = s.stb.total r := by
  have ho : t.stb.order = s.stb.order := by rw [h.stb]
  unfold State.SelfStands at k
  simp only [ShareTable.total, ShareTable.counted, ho]
  rcases k with k | k <;> rw [k]
  cases s.stb.self <;> simp [Entry.withoutValves]

theorem TableNotice.total {s t : State} (h : TableNotice s t) (r : Resource) :
    t.stb.total r = s.stb.total r := SelfStands.total h.notice h.self r

theorem offerTarget_overdraw (s : State) (r : Resource) (t : Nat) :
    (s.offerTarget r t).cjg.overdraw = s.cjg.overdraw := by
  unfold State.offerTarget
  split
  · rw [show ∀ (x : State) i, (x.ask i).cjg = x.cjg from fun _ _ => rfl, (recomputeCaps_caps _).cjg]
    rfl
  · rfl

theorem computeCut_overdraw (s : State) (r : Resource) :
    (s.computeCut r).cjg.overdraw = s.cjg.overdraw := by
  unfold State.computeCut
  split
  · rfl
  · dsimp only; split
    · exact offerTarget_overdraw s r _
    · rfl

@[simp] theorem Per.get_set {α : Type} (p : Per α) (r : Resource) (x : α) :
    (p.set r x).get r = x := by cases r <;> rfl

theorem Per.get_set_other {α : Type} (p : Per α) {r r' : Resource} (x : α) (h : r' ≠ r) :
    (p.set r x).get r' = p.get r' := by
  cases r <;> cases r' <;> first | rfl | exact absurd rfl h

/-- R40: the flag of the evaluated resource says whether the total exceeds the capacity. -/
theorem evalOverdraw_overdraw (s : State) (r : Resource) :
    (s.evalOverdraw r).cjg.overdraw =
      s.cjg.overdraw.set r (decide ((s.csr.capacity.get r).value < s.stb.total r)) := by
  have same : ∀ b, s.cjg.overdraw.get r = b → s.cjg.overdraw.set r b = s.cjg.overdraw := by
    intro b hb; subst hb; cases r <;> rfl
  unfold State.evalOverdraw
  dsimp only
  by_cases hc : (s.csr.capacity.get r).value < s.stb.total r
  · simp only [hc, if_true, decide_true]
    by_cases ho : s.cjg.overdraw.get r = true
    · simp only [ho, if_true, same _ ho]
    · simp only [ho, Bool.false_eq_true, if_false]
      split
      · rw [computeCut_overdraw]; rfl
      · rfl
  · simp only [hc, if_false, decide_false]
    by_cases ho : s.cjg.overdraw.get r = true
    · simp only [ho, if_true]; rfl
    · simp only [ho, Bool.false_eq_true, if_false]
      rw [same _ (by simpa using ho)]

/-- R40: after the notice of a table change every flag agrees. -/
theorem tableChanged_agrees (s : State) : s.tableChanged.OverdrawAgrees := by
  have h1 := evalOverdraw_table s .cool
  have h2 := evalOverdraw_table (s.evalOverdraw .cool) .heat
  have h3 := evalOverdraw_table ((s.evalOverdraw .cool).evalOverdraw .heat) .power
  have o1 := evalOverdraw_overdraw s .cool
  have o2 := evalOverdraw_overdraw (s.evalOverdraw .cool) .heat
  have o3 := evalOverdraw_overdraw ((s.evalOverdraw .cool).evalOverdraw .heat) .power
  intro r
  have ht := (tableChanged_table s).total r
  have hcs := (tableChanged_table s).notice.csr
  rw [ht, hcs]
  unfold State.tableChanged
  rw [o3, o2, o1, h2.total, h2.notice.csr, h1.total, h1.total, h1.notice.csr]
  cases r <;> rfl

/-- R40: after the notices of a change of the self entry every flag agrees. -/
theorem selfChanged_agrees (s : State) : s.selfChanged.OverdrawAgrees := by
  have h := recomputeCaps_caps s.tableChanged
  intro r
  have ht := h.table.total r
  have k := tableChanged_agrees s r
  unfold State.selfChanged
  rw [ht, h.cjg, h.notice.csr]
  exact k

/-- R40: where the flags agree already, the notice of a table change does nothing. -/
theorem tableChanged_same {s : State} (h : s.OverdrawAgrees) : s.tableChanged = s := by
  have one : ∀ r, s.evalOverdraw r = s := by
    intro r
    have k := h r
    unfold State.evalOverdraw
    dsimp only
    by_cases hc : (s.csr.capacity.get r).value < s.stb.total r
    · simp [hc, k]
    · simp [hc, k]
  unfold State.tableChanged
  rw [one, one, one]

end Sys2Proof.Machine
end

