-- ==== Sys2Proof/Laws/Flush.lean ====
section
/-! SUPPORT. What entering the events of a command can touch (R189), and the two ways a command runs. -/

namespace Sys2Proof.Machine

@[simp] theorem State.flush_stb (s : State) : s.flush.stb = s.stb := rfl
@[simp] theorem State.flush_cjg (s : State) : s.flush.cjg = s.cjg := rfl
@[simp] theorem State.flush_csr (s : State) : s.flush.csr = s.csr := rfl
@[simp] theorem State.flush_lnk (s : State) : s.flush.lnk = s.lnk := rfl
@[simp] theorem State.flush_txq (s : State) : s.flush.txq = s.txq := rfl
@[simp] theorem State.flush_mbr (s : State) : s.flush.mbr = s.mbr := rfl
@[simp] theorem State.flush_zlp (s : State) : s.flush.zlp = s.zlp := rfl
@[simp] theorem State.flush_dcc (s : State) : s.flush.dcc = s.dcc := rfl
@[simp] theorem State.flush_sup (s : State) : s.flush.sup = s.sup := rfl
@[simp] theorem State.flush_cfg (s : State) : s.flush.cfg = s.cfg := rfl
@[simp] theorem State.flush_clock (s : State) : s.flush.clock = s.clock := rfl
@[simp] theorem State.flush_pending (s : State) : s.flush.pending = s.pending := rfl
@[simp] theorem State.flush_raised (s : State) : s.flush.raised = [] := rfl

/-- A command that raises no event changes nothing at its end. -/
theorem State.flush_of_nil {s : State} (h : s.raised = []) : s.flush = s := by
  cases s
  simp only at h
  subst h
  rfl

/-- One event is entered as it is. -/
theorem State.flush_of_one {s : State} {e : Raised} (h : s.raised = [e]) :
    s.flush = (s.setSvc (s.svc.post e.record)).setRaised [] := by
  have m : mergeEvents 1 s.freeCount [e] = ([e.record], s.freeCount) := by
    simp [mergeEvents, nextEvents]
  cases s
  simp only at h m
  subst h
  simp only [State.flush, List.length_singleton, m]
  rfl

/-- Only an event that was raised enters next. -/
theorem mem_of_mem_nextEvents {e : Raised} {evs : List Raised} (h : e ∈ nextEvents evs) :
    e ∈ evs := by
  induction evs with
  | nil => exact h
  | cons x xs ih =>
    rcases List.mem_cons.mp h with h | h
    · exact h ▸ List.mem_cons_self
    · exact List.mem_cons_of_mem _ (ih (List.mem_filter.mp h).1)

/-- The record of one event first, then those of the others in any order. -/
theorem perm_of_erase {e : Raised} {evs : List Raised} {rs : List EventRecord} (h : e ∈ evs)
    (k : rs.Perm ((evs.erase e).map (·.record))) :
    (e.record :: rs).Perm (evs.map (·.record)) := by
  have m := (List.perm_cons_erase h).map (f := Raised.record)
  exact (k.cons e.record).trans m.symm

/-- Every event of a command enters exactly once, in some order (R189). -/
theorem mergeEvents_perm (fuel n : Nat) (evs : List Raised) :
    (mergeEvents fuel n evs).1.Perm (evs.map (·.record)) := by
  induction fuel generalizing n evs with
  | zero => exact List.Perm.refl _
  | succ fuel ih =>
    unfold mergeEvents
    split
    · next h =>
      cases evs with
      | nil => exact List.Perm.refl _
      | cons x xs => simp [nextEvents] at h
    · next e h =>
      exact perm_of_erase (mem_of_mem_nextEvents (h ▸ List.mem_singleton.mpr rfl)) (ih _ _)
    · next e e' es h =>
      refine perm_of_erase (mem_of_mem_nextEvents ?_) (ih _ _)
      rw [h]
      have hlt : Config.freeChoice n % (es.length + 2) < (e :: e' :: es).length :=
        Nat.mod_lt _ (Nat.succ_pos _)
      rw [List.getD_eq_getElem _ _ hlt]
      exact List.getElem_mem hlt

/-- What the events of a command do to the Service Line: each enters once, in some order. -/
theorem State.flush_svc_perm (s : State) :
    ∃ es : List EventRecord, es.Perm (s.raised.map (·.record)) ∧
      s.flush.svc = es.foldl ServiceLine.post s.svc :=
  ⟨_, mergeEvents_perm _ _ _, rfl⟩

/-- A command of the running part. -/
theorem State.run_of_running {s : State} (f : State → State) (h : s.held = false) :
    s.run f = .next (f s).flush := by simp [State.run, h]

/-- A command has no effect while the part is held. -/
theorem State.run_of_held {s : State} (f : State → State) (h : s.held = true) :
    s.run f = .next s := by simp [State.run, h]

/-- A command that raises no event, on the running part. -/
theorem State.run_quiet {s : State} {f : State → State} (h : s.held = false)
    (k : (f s).raised = []) : s.run f = .next (f s) := by
  rw [State.run_of_running f h, State.flush_of_nil k]

/-- The FIFO holds at most 16 records and the lost count at most 255 (R189). -/
def ServiceLine.fits (v : ServiceLine) : Prop := v.fifo.length ≤ 16 ∧ v.lost ≤ 255

theorem ServiceLine.post_fits {v : ServiceLine} (h : v.fits) (e : EventRecord) :
    (v.post e).fits := by
  obtain ⟨h1, h2⟩ := h
  unfold ServiceLine.post
  split
  · split
    · next hlt =>
      simp only [Config.fifoDepth] at hlt
      exact ⟨by simp only [List.length_append, List.length_singleton]; omega, h2⟩
    · exact ⟨h1, Nat.min_le_left _ _⟩
  · exact ⟨h1, h2⟩

theorem ServiceLine.posts_fit {v : ServiceLine} (h : v.fits) (es : List EventRecord) :
    (es.foldl ServiceLine.post v).fits := by
  induction es generalizing v with
  | nil => exact h
  | cons e es ih => exact ih (v.post_fits h e)

theorem State.flush_fits {s : State} (h : s.svc.fits) : s.flush.svc.fits :=
  ServiceLine.posts_fit h _

end Sys2Proof.Machine
end

