-- ==== Sys2Proof/Laws/Frames.lean ====
section
/-! SUPPORT. Frames heard and completed, said once: what a good frame of another station and a completed own frame do before they are handed to the blocks, how the table takes a sender, and what entering the events in the FIFO leaves as it was. -/

namespace Sys2Proof.Machine

/-! ### Events entering the FIFO -/

/-- R189: posting an event changes the FIFO and the lost count only. -/
theorem post_port (v : ServiceLine) (e : EventRecord) :
    v.post e = { v with fifo := (v.post e).fifo, lost := (v.post e).lost } := by
  unfold ServiceLine.post
  split
  · split <;> rfl
  · rfl

theorem posts_port (es : List EventRecord) (v : ServiceLine) :
    es.foldl ServiceLine.post v = { v with fifo := (es.foldl ServiceLine.post v).fifo
                                           lost := (es.foldl ServiceLine.post v).lost } := by
  induction es generalizing v with
  | nil => rfl
  | cons e es ih => rw [List.foldl_cons, ih, post_port]

/-- The end of a command changes the FIFO, the lost count, the free values drawn and the waiting events only. -/
theorem flush_port (s : State) : s.PortStands s.flush := posts_port _ s.svc

@[simp] theorem flush_stb (s : State) : s.flush.stb = s.stb := rfl
@[simp] theorem flush_cjg (s : State) : s.flush.cjg = s.cjg := rfl
@[simp] theorem flush_csr (s : State) : s.flush.csr = s.csr := rfl
@[simp] theorem flush_lnk (s : State) : s.flush.lnk = s.lnk := rfl
@[simp] theorem flush_txq (s : State) : s.flush.txq = s.txq := rfl
@[simp] theorem flush_mbr (s : State) : s.flush.mbr = s.mbr := rfl
@[simp] theorem flush_zlp (s : State) : s.flush.zlp = s.zlp := rfl
@[simp] theorem flush_dcc (s : State) : s.flush.dcc = s.dcc := rfl
@[simp] theorem flush_sup (s : State) : s.flush.sup = s.sup := rfl
@[simp] theorem flush_cfg (s : State) : s.flush.cfg = s.cfg := rfl
@[simp] theorem flush_clock (s : State) : s.flush.clock = s.clock := rfl
@[simp] theorem flush_pending (s : State) : s.flush.pending = s.pending := rfl
@[simp] theorem flush_raised (s : State) : s.flush.raised = [] := rfl

/-- The end of a command changes no total and no flag. -/
theorem flush_agrees (s : State) : s.flush.OverdrawAgrees ↔ s.OverdrawAgrees := Iff.rfl

/-- A command in the running part acts and its events are entered. -/
theorem run_ready {s : State} (f : State → State) (h : s.Ready) : s.run f = .next (f s).flush :=
  State.run_of_running f h.1

/-! ### Heard frames -/

theorem takesFrames_counts {x : Station} (h : x.takesFrames = true) : x.counts = true := by
  cases x <;> first | rfl | exact absurd h Bool.false_ne_true

theorem takesFrames_notParked {x : Station} (h : x.takesFrames = true) : x ≠ .parkedLight := by
  rintro rfl; exact absurd h Bool.false_ne_true

/-- R81, R85, R89: a good, non-void frame of another station ends and is handed to its takers. -/
theorem arrive_heard {s : State} {kind : BitVec 3} {b : RxBody} {slots : Slots} {f : FrameBody}
    (h : s.Hears kind b slots f) :
    s.arrive kind b slots = (s.setLnk s.lnk.afterGood).take b.source.toNat
      (!(slots.veto || s.lnk.vetoDriven)) f := by
  obtain ⟨_, hrec, htakes, hcheck, hfault, hown, hdec⟩ := h
  have hc := takesFrames_counts htakes
  have hp := takesFrames_notParked htakes
  have hg : s.endFrame.arriveGood = s.setLnk s.lnk.afterGood := by
    simp [State.arriveGood, State.endFrame, State.bump, hc, Link.afterGood]; rfl
  have ho : (s.setLnk s.lnk.afterGood).ownAddress = s.ownAddress := rfl
  simp [State.arrive, hrec, hp, State.arriveCounted, hcheck, hdec, State.countMalformed, hfault,
    hg, State.handOn, ho, hown, htakes]

/-- R80: a station drove a part of a frame exactly when its present row drives and that row did not begin after the part. -/
theorem droveSlot_iff (s : State) (beforeEnd : Nat) :
    s.droveSlot beforeEnd = true ↔ s.mbr.station.drives = true ∧
      ∀ t, s.lnk.drivesFrom = some t → t + beforeEnd ≤ s.clock := by
  unfold State.droveSlot
  cases s.lnk.drivesFrom <;> simp

/-! ### The sender in the table -/

theorem find_address {es : List Entry} {a : Nat} {e : Entry}
    (h : es.find? (fun e => e.address == a) = some e) : e.address = a := by
  simpa using List.find?_some h

theorem dropAddress_none {es : List Entry} {a : Nat}
    (h : es.find? (fun e => e.address == a) = none) : dropAddress es a = es := by
  simp only [dropAddress, List.filter_eq_self]
  intro e he
  have := List.find?_eq_none.mp h e he
  simpa using this

theorem evictFrom_mem {es es' : List Entry} (h : evictFrom es = some es') :
    ∀ e ∈ es', e ∈ es := by
  induction es generalizing es' with
  | nil => simp [evictFrom] at h
  | cons x es ih =>
    simp only [evictFrom] at h
    cases k : evictFrom es with
    | some es2 =>
      simp only [k, Option.some.injEq] at h
      subst h
      intro e he
      rcases List.mem_cons.mp he with rfl | he
      · simp
      · exact List.mem_cons_of_mem _ (ih k e he)
    | none =>
      simp only [k] at h
      split at h
      · simp only [Option.some.injEq] at h
        subst h
        intro e he; exact List.mem_cons_of_mem _ he
      · exact absurd h (by simp)

theorem map_same {es : List Entry} {g : Entry → Entry} (h : ∀ e ∈ es, g e = e) :
    es.map g = es := (List.map_congr_left h).trans (List.map_id es)

theorem map_dropAddress (es : List Entry) (a : Nat) (f : Entry → Entry) :
    (dropAddress es a).map (fun e => if e.address == a then f e else e) = dropAddress es a := by
  apply map_same
  intro e he
  have := (List.mem_filter.mp he).2
  simp only [bne_iff_ne, ne_eq] at this
  simp [this]

theorem map_none {es : List Entry} {a : Nat} (h : es.find? (fun e => e.address == a) = none)
    (f : Entry → Entry) : es.map (fun e => if e.address == a then f e else e) = es := by
  apply map_same
  intro e he
  have := List.find?_eq_none.mp h e he
  simp only [beq_iff_eq] at this
  simp [this]

theorem evicted_none {es es' : List Entry} {a : Nat} (h : evictFrom es = some es')
    (k : es.find? (fun e => e.address == a) = none) :
    es'.find? (fun e => e.address == a) = none := by
  rw [List.find?_eq_none] at *
  intro e he; exact k e (evictFrom_mem h e he)

/-- `t` differs from `s` at most in the recency order, the untracked episode and the events raised. -/
structure OrderOnly (s t : State) : Prop where
  stb : t.stb = { s.stb with order := t.stb.order, untracked := t.stb.untracked
                             untrackedTimer := t.stb.untrackedTimer }
  rest : t = (s.setStb t.stb).setRaised t.raised

theorem OrderOnly.refl (s : State) : OrderOnly s s := ⟨rfl, rfl⟩

theorem OrderOnly.trans {s t u : State} (h : OrderOnly s t) (k : OrderOnly t u) :
    OrderOnly s u where
  stb := by rw [k.stb, h.stb]
  rest := by
    refine k.rest.trans ?_
    have := h.rest
    generalize u.stb = x at *
    generalize u.raised = y at *
    rw [this]; rfl

/-- R5 to R12: what taking a sender can do. -/
theorem seat_order (s : State) (address : Nat) (f : FrameBody) :
    OrderOnly s (s.seat address f) := by
  have hu : ∀ a, OrderOnly s (s.unrecorded a) := by
    intro a; unfold State.unrecorded; dsimp only; split <;> exact ⟨rfl, rfl⟩
  unfold State.seat
  split
  · split
    · exact ⟨rfl, rfl⟩
    · split
      · exact ⟨rfl, rfl⟩
      · exact .refl s
  · split
    · unfold State.create
      split
      · exact ⟨rfl, rfl⟩
      · split
        · exact ⟨rfl, rfl⟩
        · exact hu _
    · exact .refl s

theorem mapPeer_order (s : State) (address : Nat) (f : Entry → Entry) :
    OrderOnly s (s.mapPeer address f) := ⟨rfl, rfl⟩

/-- R6: a frame that makes no entry refreshes its sender. -/
theorem seat_refreshed (s : State) (address : Nat) (fb : FrameBody)
    (hmade : createdBy address fb = none) (hkept : ∀ e : Entry, e.overwrittenBy fb = e) :
    s.seat address fb = s.setStb { s.stb with
      order := match s.stb.peer address with
        | some e =>
          if e.present then { e with age := 0 } :: dropAddress s.stb.order address
          else s.stb.order
        | none => s.stb.order } := by
  unfold State.seat
  cases hp : s.stb.peer address with
  | some e =>
    have ha : e.address = address := find_address hp
    cases hpres : e.present with
    | true => simp [hkept, ShareTable.toHead, ha, hpres]
    | false => simp [hmade, hpres]; rfl
  | none => simp [hmade]; rfl

/-- R6 to R12: the table takes the sender of a frame that may make an entry, and `f` acts on that entry. -/
theorem seat_recorded (s : State) (address : Nat) (fb : FrameBody) (made : Entry)
    (kept f : Entry → Entry) (hmade : createdBy address fb = some made)
    (haddr : made.address = address) (hkept : ∀ e, e.overwrittenBy fb = kept e)
    (hk : ∀ e, (kept e).address = e.address) :
    s.Recorded ((s.seat address fb).mapPeer address f) address made kept f := by
  unfold State.Recorded State.seat
  cases hp : s.stb.peer address with
  | some e =>
    have ha : e.address = address := find_address hp
    cases hpres : e.present with
    | true =>
      simp only [hpres, if_true, hkept, State.mapPeer, ShareTable.mapPeer, ShareTable.toHead,
        State.setStb_stb, List.map_cons, hk, ha, beq_self_eq_true, map_dropAddress, and_self]
    | false =>
      simp only [hpres, Bool.false_eq_true, if_false, hmade, State.raisePeerNew, State.raise,
        State.mapPeer, ShareTable.mapPeer, ShareTable.toHead, State.setRaised_stb,
        State.setStb_stb, List.map_cons, haddr, beq_self_eq_true, if_true, map_dropAddress, and_self]
  | none =>
    simp only [hmade, State.create, ShareTable.hasPlace, Config.tablePlaces]
    by_cases hl : s.stb.order.length < 11
    · have hl' : s.stb.order.length + 1 < 12 := by omega
      simp only [hl, hl', decide_true, if_true, State.raisePeerNew, State.raise, State.mapPeer,
        ShareTable.mapPeer, ShareTable.toHead, State.setRaised_stb, State.setStb_stb,
        List.map_cons, haddr, beq_self_eq_true, dropAddress_none hp, if_true, map_none hp, and_self]
    · have hl' : ¬ s.stb.order.length + 1 < 12 := by omega
      simp only [hl, hl', decide_false, Bool.false_eq_true, if_false]
      cases hev : evictFrom s.stb.order with
      | some es =>
        simp only [State.raisePeerNew, State.raise, State.mapPeer, ShareTable.mapPeer,
          ShareTable.toHead, State.setRaised_stb, State.setStb_stb, List.map_cons, haddr,
          beq_self_eq_true, if_true, dropAddress_none (evicted_none hev hp),
          map_none (evicted_none hev hp), and_self]
      | none =>
        have hu : (s.unrecorded made.address).stb =
            { s.stb with untracked := true
                         untrackedTimer := some (s.clock + Config.untrackedTime) } := by
          unfold State.unrecorded
          dsimp only
          split <;> rfl
        simp only [State.mapPeer, ShareTable.mapPeer, State.setStb_stb, hu, map_none hp, and_self]

end Sys2Proof.Machine
end

