-- ==== Sys2Proof/Laws/Arrivals.lean ====
section
/-! SUPPORT. What the arrival of a frame leaves of the station, said once for each operation an arrival is made of, and what a SUPPLY and an adoption make of the capacity records. -/

namespace Sys2Proof.Machine

/-! ### SameStation for the operations of an arrival -/

theorem SameStation.refl (s : State) : s.SameStation s :=
  ⟨rfl, rfl, rfl, rfl, rfl, rfl, rfl, rfl, rfl, rfl, rfl, rfl, Or.inl rfl⟩

theorem SameStation.trans {s t u : State} (h : s.SameStation t) (k : t.SameStation u) :
    s.SameStation u := by
  obtain ⟨a1, a2, a3, a4, a5, a6, a7, a8, a9, a10, a11, a12, a13⟩ := h
  obtain ⟨b1, b2, b3, b4, b5, b6, b7, b8, b9, b10, b11, b12, b13⟩ := k
  refine ⟨b1.trans a1, b2.trans a2, b3.trans a3, b4.trans a4, b5.trans a5, b6.trans a6,
    b7.trans a7, ?_, ?_, ?_, b11.trans a11, b12.trans a12, SelfStands.trans a13 b13⟩
  · rw [b8, a8]
  · unfold State.PortStands at *; rw [b9, a9]
  · rw [b10, a10]

/-- R19: the notice of a table change. -/
theorem TableNotice.same {s t : State} (k : TableNotice s t) : s.SameStation t :=
  ⟨k.notice.mbr, k.notice.sup, k.notice.cfg, k.notice.clock, k.notice.pending, k.notice.damper,
    k.notice.condition, k.zlp, by unfold State.PortStands; rw [k.notice.svc], k.txq, k.request,
    k.veto, k.self⟩

/-- R6 to R12: the table takes the sender. -/
theorem OrderOnly.same {s t : State} (h : OrderOnly s t) : s.SameStation t := by
  have h1 := h.rest
  refine ⟨?_, ?_, ?_, ?_, ?_, ?_, ?_, ?_, ?_, ?_, ?_, ?_, Or.inl (by rw [h.stb])⟩
  all_goals rw [h1]; rfl

theorem setLnk_same (s : State) (x : Link) : s.SameStation (s.setLnk x) := SameStation.refl s

theorem setCsr_same (s : State) (x : Records) : s.SameStation (s.setCsr x) := SameStation.refl s

theorem drawn_same (s : State) : s.SameStation s.drawn := SameStation.refl s

theorem raise_same (s : State) (o : Origin) (k : EventKind) (p : Option Nat)
    (r : Option Resource) (v : Option Nat) : s.SameStation (s.raise o k p r v) :=
  SameStation.refl s

theorem flush_same (s : State) : s.SameStation s.flush :=
  ⟨rfl, rfl, rfl, rfl, rfl, rfl, rfl, rfl, flush_port s, rfl, rfl, rfl, Or.inl rfl⟩

/-! ### Recorded -/

/-- What was recorded stands where the order and the untracked episode stand. -/
theorem recorded_congr {s x y : State} {a : Nat} {made : Entry} {kept f : Entry → Entry}
    (k : s.Recorded x a made kept f) (ho : y.stb.order = x.stb.order)
    (hu : y.stb.untracked = x.stb.untracked)
    (ht : y.stb.untrackedTimer = x.stb.untrackedTimer) : s.Recorded y a made kept f := by
  unfold State.Recorded at *; rw [ho, hu, ht]; exact k

/-- The identity on the sender's entry. -/
theorem mapPeer_id (s : State) (a : Nat) : s.mapPeer a id = s := by
  have h : s.stb.mapPeer a id = s.stb := by
    simp only [ShareTable.mapPeer]
    rw [map_same]
    intro e _; split <;> rfl
  simp only [State.mapPeer, h]; rfl

/-! ### The capacity records -/

/-- `t` differs from `s` at most in the records and the events raised. -/
structure RecordsOnly (s t : State) : Prop where
  rest : t = (s.setCsr t.csr).setRaised t.raised

theorem RecordsOnly.trans {s t u : State} (h : RecordsOnly s t) (k : RecordsOnly t u) :
    RecordsOnly s u where
  rest := by
    refine k.rest.trans ?_
    have := h.rest
    generalize u.csr = x at *
    generalize u.raised = y at *
    rw [this]; rfl

theorem RecordsOnly.same {s t : State} (h : RecordsOnly s t) : s.SameStation t := by
  rw [h.rest]; exact SameStation.refl s

theorem supplyNamed_records (s : State) (a : Nat) (fb : Bool) (vs : Per (Option Nat))
    (r : Resource) : RecordsOnly s (s.supplyNamed a fb vs r) := by
  unfold State.supplyNamed State.supplyRecord
  dsimp only
  split
  · exact ⟨rfl⟩
  · split <;> exact ⟨rfl⟩

/-- R50, R55: what a SUPPLY makes of the record of one resource. -/
def CapacityRecord.supplied (c : CapacityRecord) (sender clock : Nat) (fallback : Bool) :
    Option Nat → CapacityRecord
  | none => c
  | some v =>
    { value := v, source := sender
      state := if fallback then .lapsed else .fresh
      timer := if fallback then .stopped else .running (clock + Config.supplyTime)
      adoption := false }

theorem supplyNamed_csr (s : State) (a : Nat) (fb : Bool) (vs : Per (Option Nat)) (r : Resource) :
    (s.supplyNamed a fb vs r).csr = { s.csr with
      capacity := s.csr.capacity.set r
        ((s.csr.capacity.get r).supplied a s.clock fb (vs.get r)) } := by
  unfold State.supplyNamed State.supplyRecord CapacityRecord.supplied
  cases vs.get r with
  | none => cases r <;> rfl
  | some v => simp only; split <;> rfl

/-- R50: an applied SUPPLY changes the named records, and the notice of a capacity change follows. -/
theorem applySupply_notice (s : State) (a : Nat) (fb : Bool) (vs : Per (Option Nat)) :
    ∃ x, RecordsOnly s x ∧ s.applySupply a fb vs = x.tableChanged ∧
      x.csr.setpoint = s.csr.setpoint ∧
      ∀ r, x.csr.capacity.get r = (s.csr.capacity.get r).supplied a s.clock fb (vs.get r) := by
  have hc : ∀ (s : State) r, (s.supplyNamed a fb vs r).clock = s.clock := by
    intro s r; rw [(supplyNamed_records s a fb vs r).rest]; rfl
  refine ⟨_, ((supplyNamed_records s a fb vs .cool).trans
    (supplyNamed_records _ a fb vs .heat)).trans (supplyNamed_records _ a fb vs .power), rfl,
    ?_, ?_⟩
  · rw [supplyNamed_csr, supplyNamed_csr, supplyNamed_csr]
  · intro r
    rw [supplyNamed_csr, supplyNamed_csr, supplyNamed_csr]
    simp only [hc]
    cases r <;> rfl

end Sys2Proof.Machine
end

