-- ==== Sys2Proof/Laws/Channels.lean ====
section
/-! SUPPORT. What each operation on a duty channel makes of its channel, and that it leaves the other two (R145 to R149). -/

namespace Sys2Proof.Machine

@[simp] theorem channel_setChannel (d : Drives) (ch : DutyChannel) (c : Channel) :
    (d.setChannel ch c).channel ch = c := by cases ch <;> rfl

theorem channel_setChannel_other (d : Drives) {ch other : DutyChannel} (c : Channel)
    (h : other ≠ ch) : (d.setChannel ch c).channel other = d.channel other := by
  cases ch <;> cases other <;> first | rfl | exact absurd rfl h

@[simp] theorem channel_switchOff (d : Drives) (ch : DutyChannel) (k : Nat) :
    (d.switchOff ch k).channel ch = { d.channel ch with on := false } := by
  cases ch with
  | blower => rfl
  | heatValve => rfl
  | coolValve => simp only [Drives.switchOff]; split <;> rfl

theorem channel_switchOff_other (d : Drives) {ch other : DutyChannel} (k : Nat)
    (h : other ≠ ch) : (d.switchOff ch k).channel other = d.channel other := by
  cases ch with
  | blower => exact channel_setChannel_other d _ h
  | heatValve => exact channel_setChannel_other d _ h
  | coolValve =>
    simp only [Drives.switchOff]
    split
    · exact channel_setChannel_other d _ h
    · exact channel_setChannel_other d _ h

@[simp] theorem channel_setDuties (d : Drives) (ch : DutyChannel) (n : Nat) :
    (d.setDuties ch n).channel ch = { d.channel ch with active := n, buffered := n } :=
  channel_setChannel d ch _

theorem channel_setDuties_other (d : Drives) {ch other : DutyChannel} (n : Nat)
    (h : other ≠ ch) : (d.setDuties ch n).channel other = d.channel other :=
  channel_setChannel_other d _ h

/-- R149: a channel forced off. -/
@[simp] theorem channel_forceOff (d : Drives) (ch : DutyChannel) (k : Nat) :
    (d.forceOff ch k).channel ch =
      { d.channel ch with on := false, active := 0, buffered := 0 } := by
  have h : ((d.switchOff ch k).setDuties ch 0).channel ch =
      { d.channel ch with on := false, active := 0, buffered := 0 } := by simp
  rw [← h]; cases ch <;> rfl

theorem channel_forceOff_other (d : Drives) {ch other : DutyChannel} (k : Nat)
    (h : other ≠ ch) : (d.forceOff ch k).channel other = d.channel other := by
  have e : ((d.switchOff ch k).setDuties ch 0).channel other = d.channel other := by
    rw [channel_setDuties_other _ _ h, channel_switchOff_other _ _ h]
  rw [← e]; cases ch <;> cases other <;> rfl

/-- R148: a channel cut at once. -/
theorem channel_cut (d : Drives) (ch : DutyChannel) (n k : Nat) :
    (d.cut ch n k).channel ch = { d.channel ch with
      active := n, buffered := n
      on := (d.channel ch).on && decide ((d.channel ch).position k < onTime ch n) } := by
  simp only [Drives.cut]
  by_cases h : onTime ch n ≤ (d.channel ch).position k
  · have h' : ¬ (d.channel ch).position k < onTime ch n := Nat.not_lt.mpr h
    simp [h, h']
  · have h' : (d.channel ch).position k < onTime ch n := Nat.lt_of_not_le h
    simp [h, h']

theorem channel_cut_other (d : Drives) {ch other : DutyChannel} (n k : Nat) (h : other ≠ ch) :
    (d.cut ch n k).channel other = d.channel other := by
  simp only [Drives.cut]
  split
  · rw [channel_switchOff_other _ _ h, channel_setDuties_other _ _ h]
  · exact channel_setDuties_other _ _ h

/-- R145: the channel after a cap is pushed to it. -/
theorem channel_pushCap (d : Drives) (ch : DutyChannel) (cap : Nat) (follows : Bool) (k : Nat) :
    (d.pushCap ch cap follows k).channel ch =
      let c := d.channel ch
      if follows = false then { c with cap := cap }
      else if cap = 0 then { c with cap := 0, on := false, active := 0, buffered := 0 }
      else if dutyOf ch cap < c.active then
        { c with
          cap := cap, active := dutyOf ch cap, buffered := dutyOf ch cap
          on := c.on && decide (c.position k < onTime ch (dutyOf ch cap)) }
      else { c with cap := cap, buffered := dutyOf ch cap } := by
  dsimp only [Drives.pushCap]
  cases follows with
  | false => simp
  | true =>
    by_cases h0 : cap = 0
    · simp [h0]
    · by_cases h : dutyOf ch cap < (d.channel ch).active
      · simp only [h0, h, if_true, if_false, Bool.not_true, Bool.false_eq_true, channel_cut,
          channel_setChannel, reduceCtorEq]
        rfl
      · simp [h0, h]

theorem channel_pushCap_other (d : Drives) {ch other : DutyChannel} (cap : Nat) (follows : Bool)
    (k : Nat) (h : other ≠ ch) : (d.pushCap ch cap follows k).channel other = d.channel other := by
  dsimp only [Drives.pushCap]
  split
  · exact channel_setChannel_other d _ h
  · split
    · rw [channel_forceOff_other _ _ h, channel_setChannel_other _ _ h]
    · split
      · rw [channel_cut_other _ _ _ h, channel_setChannel_other _ _ h]
      · rw [channel_setChannel_other _ _ h, channel_setChannel_other _ _ h]

/-- R150: an effective on-time is at or below its duty and at most 1000. -/
theorem effectiveOn_le (d : Nat) : effectiveOn d ≤ d ∧ effectiveOn d ≤ 1000 := by
  unfold effectiveOn
  split
  · omega
  · split
    · omega
    · split <;> omega

end Sys2Proof.Machine
end

