-- ==== Sys2Proof/Laws/Outer.lean ====
section
/-! SUPPORT. The Supply Monitor, the image, the Service Line, the clock and the queue of commands stand under every operation of the link, the membership, the Zone Loop and the channels: one lemma per operation. -/

namespace Sys2Proof.Machine

/-- `sup`, `cfg`, `svc`, `clock` and `pending` are the same in both states. -/
structure OuterSame (s t : State) : Prop where
  sup : t.sup = s.sup
  cfg : t.cfg = s.cfg
  svc : t.svc = s.svc
  clock : t.clock = s.clock
  pending : t.pending = s.pending

theorem OuterSame.refl (s : State) : OuterSame s s := by constructor <;> rfl

theorem OuterSame.trans {s t u : State} (h : OuterSame s t) (k : OuterSame t u) : OuterSame s u :=
  ⟨k.sup.trans h.sup, k.cfg.trans h.cfg, k.svc.trans h.svc, k.clock.trans h.clock,
    k.pending.trans h.pending⟩

theorem NoticeOnly.outer {s t : State} (h : NoticeOnly s t) : OuterSame s t :=
  ⟨h.sup, h.cfg, h.svc, h.clock, h.pending⟩

theorem OuterSame.ite {s t u : State} {p : Prop} [Decidable p] (h : OuterSame s t)
    (k : OuterSame s u) : OuterSame s (if p then t else u) := by split <;> assumption

/-! ### Block updates -/

theorem outer_setStb (s : State) (x : ShareTable) : OuterSame s (s.setStb x) := by
  constructor <;> rfl
theorem outer_setCsr (s : State) (x : Records) : OuterSame s (s.setCsr x) := by
  constructor <;> rfl
theorem outer_setCjg (s : State) (x : ClaimJudge) : OuterSame s (s.setCjg x) := by
  constructor <;> rfl
theorem outer_setLnk (s : State) (x : Link) : OuterSame s (s.setLnk x) := by
  constructor <;> rfl
theorem outer_setTxq (s : State) (x : TransmitQueue) : OuterSame s (s.setTxq x) := by
  constructor <;> rfl
theorem outer_setMbr (s : State) (x : Membership) : OuterSame s (s.setMbr x) := by
  constructor <;> rfl
theorem outer_setZlp (s : State) (x : ZoneLoop) : OuterSame s (s.setZlp x) := by
  constructor <;> rfl
theorem outer_setDcc (s : State) (x : Drives) : OuterSame s (s.setDcc x) := by
  constructor <;> rfl
theorem outer_drawn (s : State) : OuterSame s s.drawn := by constructor <;> rfl

theorem outer_raise (s : State) (o : Origin) (k : EventKind) (p : Option Nat)
    (r : Option Resource) (v : Option Nat) : OuterSame s (s.raise o k p r v) :=
  (raise_notice s o k p r v).outer

theorem outer_ask (s : State) (i : Intent) : OuterSame s (s.ask i) := (ask_notice s i).outer

theorem outer_bump (s : State) (i : CounterId) : OuterSame s (s.bump i) := by
  unfold State.bump
  exact (outer_setLnk s _).ite (.refl s)

theorem outer_changeDrives (s : State) (f : Drives → Drives) : OuterSame s (s.changeDrives f) :=
  outer_setDcc s _

theorem outer_changeDamper (s : State) (f : Damper → Damper) : OuterSame s (s.changeDamper f) :=
  outer_setDcc s _

theorem outer_pushDamper (s : State) (n : Nat) : OuterSame s (s.pushDamper n) :=
  outer_changeDamper s _

/-! ### Table -/

theorem outer_raisePeerNew (s : State) (a : Nat) : OuterSame s (s.raisePeerNew a) :=
  outer_raise s _ _ _ _ _

theorem outer_unrecorded (s : State) (a : Nat) : OuterSame s (s.unrecorded a) := by
  unfold State.unrecorded
  exact (outer_setStb s _).ite ((outer_setStb s _).trans (outer_raise _ _ _ _ _ _))

theorem outer_create (s : State) (e : Entry) : OuterSame s (s.create e) := by
  unfold State.create
  split
  · exact (outer_setStb s _).trans (outer_raisePeerNew _ _)
  · split
    · exact (outer_setStb s _).trans (outer_raisePeerNew _ _)
    · exact outer_unrecorded s _

theorem outer_seat (s : State) (a : Nat) (f : FrameBody) : OuterSame s (s.seat a f) := by
  unfold State.seat
  split
  · split
    · exact outer_setStb s _
    · split
      · exact (outer_setStb s _).trans (outer_raisePeerNew _ _)
      · exact .refl s
  · split
    · exact outer_create s _
    · exact .refl s

theorem outer_clearTable (s : State) : OuterSame s s.clearTable := by
  unfold State.clearTable
  split
  · exact .refl s
  · exact outer_setStb s _

theorem outer_raiseLapsed (s : State) (a : Nat) : OuterSame s (s.raiseLapsed a) :=
  (outer_raise s _ _ _ _ _).trans (outer_bump _ _)

theorem outer_lapses (as : List Nat) (s : State) : OuterSame s (as.foldl State.raiseLapsed s) := by
  induction as generalizing s with
  | nil => exact .refl s
  | cons a as ih => exact (outer_raiseLapsed s a).trans (ih _)

/-! ### Stations -/

theorem outer_endDoorHold (s : State) : OuterSame s s.endDoorHold := by
  unfold State.endDoorHold
  exact (outer_setZlp s _).ite ((outer_setZlp s _).trans (outer_raise _ _ _ _ _ _))

theorem outer_stopLoop (s : State) : OuterSame s s.stopLoop :=
  ((outer_endDoorHold s).trans (outer_setZlp _ _)).trans (outer_pushDamper _ _)

theorem outer_closeWindow (s : State) : OuterSame s s.closeWindow := outer_setDcc s _

theorem outer_zeroSelf (s : State) : OuterSame s s.zeroSelf :=
  ((outer_setCjg s _).trans (mapSelf_notice _ _).outer).trans (selfChanged_notice _).outer

theorem outer_startCapacity (s : State) : OuterSame s s.startCapacity := by
  unfold State.startCapacity
  split
  · exact .refl s
  · exact outer_setCsr s _

theorem outer_setAdoption (s : State) (b : Bool) : OuterSame s (s.setAdoption b) :=
  outer_setCsr s _

theorem outer_clearShares (s : State) : OuterSame s s.clearShares :=
  (((outer_clearTable s).trans (outer_startCapacity _)).trans (outer_setCjg _ _)).trans
    (selfChanged_notice _).outer

theorem outer_forceAllOff (s : State) : OuterSame s s.forceAllOff := outer_changeDrives s _

theorem outer_homeDamper (s : State) : OuterSame s s.homeDamper := outer_changeDamper s _

theorem outer_enterSettling (s : State) : OuterSame s s.enterSettling := by
  unfold State.enterSettling
  exact ((outer_setLnk s _).trans (outer_setMbr _ _)).trans (outer_homeDamper _)

theorem outer_enterJoining (s : State) : OuterSame s s.enterJoining :=
  (((outer_setMbr s _).trans (outer_setTxq _ _)).trans (outer_setAdoption _ _)).trans
    (outer_ask _ _)

theorem outer_enterMember (s : State) : OuterSame s s.enterMember := by
  unfold State.enterMember
  dsimp only
  have h := ((outer_setMbr s { s.mbr with station := .member, censusTimer := none }).trans
    (outer_raise _ mbrOrigin .joined none none (some s.stb.presentPeers))).trans
    (outer_setAdoption _ false)
  refine OuterSame.trans ?_ (outer_closeWindow _)
  refine OuterSame.trans ?_ (outer_setZlp _ _)
  exact (h.trans (outer_ask _ _)).ite h

theorem outer_setStation (s : State) (x : Station) : OuterSame s (s.setStation x) :=
  outer_setMbr s _

theorem outer_withholdVeto (s : State) : OuterSame s s.withholdVeto :=
  ((outer_setCjg s _).trans (outer_setLnk _ _)).ite (.refl s)

theorem outer_selfLapse (s : State) : OuterSame s s.selfLapse := by
  unfold State.selfLapse
  refine OuterSame.trans ?_ (outer_enterJoining _)
  refine OuterSame.trans ?_ (outer_stopLoop _)
  refine OuterSame.trans ?_ (outer_zeroSelf _)
  exact ((outer_withholdVeto s).trans (outer_raise _ _ _ _ _ _)).trans (outer_setStation _ _)

theorem outer_enterLinkQuiet (s : State) (v : Nat) : OuterSame s (s.enterLinkQuiet v) := by
  unfold State.enterLinkQuiet
  refine OuterSame.trans ?_ (outer_stopLoop _)
  refine OuterSame.trans ?_ (outer_setAdoption _ _)
  refine OuterSame.trans ?_ (outer_zeroSelf _)
  refine OuterSame.trans ?_ (outer_setTxq _ _)
  refine OuterSame.trans ?_ (outer_setLnk _ _)
  exact (outer_raise s _ _ _ _ _).trans (outer_setMbr _ _)

theorem outer_isolate (s : State) (k : Nat) : OuterSame s (s.isolate k) := by
  unfold State.isolate
  refine OuterSame.trans ?_ (outer_changeDamper _ _)
  refine OuterSame.trans ?_ (outer_forceAllOff _)
  refine OuterSame.trans ?_ (outer_stopLoop _)
  refine OuterSame.trans ?_ (outer_clearShares _)
  refine OuterSame.trans ?_ (outer_setTxq _ _)
  refine OuterSame.trans ?_ (outer_setLnk _ _)
  exact (outer_raise s _ _ _ _ _).trans (outer_setMbr _ _)

theorem outer_parkStation (s : State) (d : ParkDepth) (w a : Nat) :
    OuterSame s (s.parkStation d w a) := by
  unfold State.parkStation
  refine OuterSame.trans ?_ (outer_forceAllOff _)
  refine OuterSame.trans ?_ (outer_stopLoop _)
  refine OuterSame.trans ?_ (outer_clearShares _)
  refine OuterSame.trans ?_ (outer_setTxq _ _)
  refine OuterSame.trans ?_ (outer_setLnk _ _)
  exact (outer_raise s _ _ _ _ _).trans (outer_setMbr _ _)

theorem outer_wakeUp (s : State) (w : WakeSource) : OuterSame s (s.wakeUp w) :=
  ((outer_raise s _ _ _ _ _).trans (outer_setMbr _ _)).trans (outer_enterSettling _)

theorem outer_wakeAndCall (s : State) (w : WakeSource) : OuterSame s (s.wakeAndCall w) :=
  (outer_wakeUp s w).trans (outer_ask _ _)

theorem outer_wakeFrozen (s : State) : OuterSame s s.wakeFrozen :=
  (outer_wakeUp s _).trans (outer_setMbr _ _)

/-! ### Link -/

theorem outer_endFrame (s : State) : OuterSame s s.endFrame := outer_setLnk s _

theorem outer_breakFrame (s : State) : OuterSame s s.breakFrame := outer_setLnk s _

theorem outer_countTxVoid (s : State) : OuterSame s s.countTxVoid := by
  unfold State.countTxVoid
  exact ((outer_enterLinkQuiet s 1).ite (outer_setLnk s _)).ite (.refl s)

theorem outer_countRxFault (s : State) : OuterSame s s.countRxFault := by
  unfold State.countRxFault
  exact ((outer_enterLinkQuiet s 2).ite (outer_setLnk s _)).ite (.refl s)

theorem outer_dropStaleTarget (s : State) (i : Intent) : OuterSame s (s.dropStaleTarget i) := by
  cases i with
  | claim r c =>
    cases c with
    | request c => exact .refl s
    | release t =>
      simp only [State.dropStaleTarget]
      split
      · exact (dropTarget_notice s r).outer.ite (.refl s)
      · exact .refl s
  | park p => exact .refl s
  | wake => exact .refl s
  | supplyLapse => exact .refl s
  | setpoint p => exact .refl s
  | state => exact .refl s
  | join => exact .refl s

theorem outer_dropIntent (s : State) (i : Intent) : OuterSame s (s.dropIntent i) :=
  (outer_setTxq s _).trans (outer_dropStaleTarget _ i)

theorem outer_unjudge (s : State) (f : FrameBody) : OuterSame s (s.unjudge f) := by
  cases f <;> first | exact .refl s | exact outer_setCjg s _

theorem outer_startFrame (s : State) (i : Intent) (f : FrameBody) :
    OuterSame s (s.startFrame i f) :=
  ((outer_setLnk s _).trans (outer_setTxq _ _)).trans (outer_unjudge _ f)

theorem outer_offer (n : Nat) (s : State) : OuterSame s (State.offer n s) := by
  induction n generalizing s with
  | zero => exact .refl s
  | succ n ih =>
    unfold State.offer
    split
    · exact .refl s
    · split
      · exact outer_startFrame s _ _
      · exact (outer_dropIntent s _).trans (ih _)

theorem outer_supplyRecord (s : State) (a : Nat) (b : Bool) (r : Resource) (v : Nat) :
    OuterSame s (s.supplyRecord a b r v) := by
  unfold State.supplyRecord
  exact ((outer_setCsr s _).trans (outer_raise _ _ _ _ _ _)).ite (outer_setCsr s _)

theorem outer_supplyNamed (s : State) (a : Nat) (b : Bool) (vs : Per (Option Nat))
    (r : Resource) : OuterSame s (s.supplyNamed a b vs r) := by
  unfold State.supplyNamed
  split
  · exact .refl s
  · exact outer_supplyRecord s a b r _

theorem outer_applySupply (s : State) (a : Nat) (b : Bool) (vs : Per (Option Nat)) :
    OuterSame s (s.applySupply a b vs) :=
  (((outer_supplyNamed s a b vs .cool).trans (outer_supplyNamed _ a b vs .heat)).trans
    (outer_supplyNamed _ a b vs .power)).trans (tableChanged_notice _).outer

theorem outer_adoptCapacity (s : State) (a : Nat) (c : StateContent) :
    OuterSame s (s.adoptCapacity a c) := (outer_setCsr s _).trans (tableChanged_notice _).outer

theorem outer_adoptSetpoint (s : State) (v : Nat) (m : SetMode) (e o : Nat) :
    OuterSame s (s.adoptSetpoint v m e o) := (outer_setCsr s _).trans (outer_raise _ _ _ _ _ _)

theorem outer_offerSetpoint (s : State) (v : Nat) (m : SetMode) (e o : Nat) :
    OuterSame s (s.offerSetpoint v m e o) := by
  unfold State.offerSetpoint
  split
  · exact .refl s
  · exact (outer_adoptSetpoint s v m e o).ite (.refl s)

theorem outer_offerStateSetpoint (s : State) (c : StateContent) :
    OuterSame s (s.offerStateSetpoint c) := by
  unfold State.offerStateSetpoint
  split
  · exact .refl s
  · exact (outer_adoptSetpoint s _ _ _ _).ite (.refl s)

theorem outer_mapPeer (s : State) (a : Nat) (f : Entry → Entry) : OuterSame s (s.mapPeer a f) :=
  outer_setStb s _

theorem outer_takeRequest (s : State) (a : Nat) (f : FrameBody) (b : Bool) :
    OuterSame s (s.takeRequest a f b) := by
  unfold State.takeRequest
  split
  · exact ((outer_seat s _ _).trans (outer_mapPeer _ _ _)).trans (tableChanged_notice _).outer
  · exact .refl s

theorem outer_takeRelease (s : State) (a : Nat) (f : FrameBody) :
    OuterSame s (s.takeRelease a f) := by
  unfold State.takeRelease
  split
  · exact ((outer_seat s _ _).trans (outer_mapPeer _ _ _)).trans (tableChanged_notice _).outer
  · exact .refl s

theorem outer_takeState (s : State) (a : Nat) (f : FrameBody) : OuterSame s (s.takeState a f) := by
  unfold State.takeState
  split
  · split
    · split
      · exact ((((outer_drawn s).trans (outer_seat _ _ _)).trans
          (tableChanged_notice _).outer).trans (outer_adoptCapacity _ _ _)).trans
          (outer_offerStateSetpoint _ _)
      · exact ((((outer_drawn s).trans (outer_adoptCapacity _ _ _)).trans
          (outer_seat _ _ _)).trans (tableChanged_notice _).outer).trans
          (outer_offerStateSetpoint _ _)
    · exact ((outer_seat s _ _).trans (tableChanged_notice _).outer).trans
        (outer_offerStateSetpoint _ _)
  · exact .refl s

theorem outer_takeJoin (s : State) (a : Nat) (f : FrameBody) : OuterSame s (s.takeJoin a f) := by
  unfold State.takeJoin
  have h := (outer_seat s a f).trans (tableChanged_notice _).outer
  exact (h.trans (outer_ask _ _)).ite h

theorem outer_take (s : State) (a : Nat) (b : Bool) (f : FrameBody) : OuterSame s (s.take a b f) := by
  unfold State.take
  split
  · exact outer_takeRequest s a _ b
  · exact outer_takeRelease s a _
  · exact (outer_seat s _ _).trans (outer_applySupply _ _ _ _)
  · exact (outer_seat s _ _).trans (outer_offerSetpoint _ _ _ _ _)
  · exact outer_takeState s a _
  · exact outer_takeJoin s a _
  · exact (outer_seat s _ _).trans (outer_parkStation _ _ _ _)
  · exact outer_seat s _ _

theorem outer_arriveBad (s : State) (b : Bool) (x : Slots) : OuterSame s (s.arriveBad b x) := by
  unfold State.arriveBad
  have h := (outer_endFrame s).trans (outer_bump _ .checkFailures)
  have h' := (h.trans (outer_bump _ .voidsSeen)).ite (p := (x.fault || b) = true) h
  exact (h'.trans (outer_countRxFault _)).ite h'

theorem outer_arriveGood (s : State) : OuterSame s s.arriveGood :=
  (outer_bump s _).trans (outer_setLnk _ _)

theorem outer_countMalformed (s : State) (f : Option FrameBody) :
    OuterSame s (s.countMalformed f) := (outer_bump s _).ite (.refl s)

theorem outer_handOn (s : State) (k : BitVec 3) (b : RxBody) (x : Bool) :
    OuterSame s (s.handOn k b x) := by
  unfold State.handOn
  split
  · exact outer_isolate s _
  · split
    · exact .refl s
    · exact (outer_take s _ _ _).ite (.refl s)

theorem outer_arriveCounted (s : State) (k : BitVec 3) (b : RxBody) (x : Slots) :
    OuterSame s (s.arriveCounted k b x) := by
  unfold State.arriveCounted
  split
  · exact outer_arriveBad s _ x
  · have h := (outer_endFrame s).trans (outer_countMalformed _ (decodeFrame k b))
    exact (h.trans (outer_bump _ _)).ite ((h.trans (outer_arriveGood _)).trans (outer_handOn _ _ _ _))

theorem outer_arriveParked (s : State) (k : BitVec 3) (b : RxBody) (x : Slots) :
    OuterSame s (s.arriveParked k b x) := by
  unfold State.arriveParked
  exact ((outer_endFrame s).trans (outer_wakeUp _ _)).ite (outer_endFrame s)

theorem outer_arrive (s : State) (k : BitVec 3) (b : RxBody) (x : Slots) :
    OuterSame s (s.arrive k b x) := by
  unfold State.arrive
  exact (OuterSame.refl s).ite ((outer_arriveParked s k b x).ite (outer_arriveCounted s k b x))

/-! ### Own completions -/

theorem outer_completeOwn (s : State) (ack paced : Bool) : OuterSame s (s.completeOwn ack paced) := by
  unfold State.completeOwn
  have h := ((outer_endFrame s).trans (outer_bump _ .framesSent)).trans (outer_setLnk _
    { (s.endFrame.bump .framesSent).lnk with
      txVoid := 0, heard := if ack = true then .heard else .unheard })
  refine OuterSame.trans ?_ (outer_setTxq _ _)
  exact (h.trans (outer_setMbr _ _)).ite h

theorem outer_setOutcome (s : State) (r : Resource) (o : LastOutcome) :
    OuterSame s (s.setOutcome r o) := outer_setCjg s _

theorem outer_setVerdict (s : State) (r : Resource) (o : OwnVerdict) :
    OuterSame s (s.setVerdict r o) := outer_setCjg s _

theorem outer_recordOutcome (s : State) (r : Resource) (b : Bool) :
    OuterSame s (s.recordOutcome r b) := by
  unfold State.recordOutcome
  exact ((outer_setOutcome s _ _).trans (outer_bump _ _)).ite
    (((outer_setOutcome s _ _).trans (outer_bump _ _)).trans (outer_raise _ _ _ _ _ _))

theorem outer_applyOwnRequest (s : State) (r : Resource) (c : ClaimClass) (x d : Nat) (b : Bool) :
    OuterSame s (s.applyOwnRequest r c x d b) := by
  unfold State.applyOwnRequest
  split
  · exact .refl s
  · next e _ =>
    have h := ((mapSelf_notice s fun y => y.withOwnRequest r c x (s.limitedDemand e r d) b).outer.trans
      (outer_setTxq _ _)).trans (selfChanged_notice
        ((s.mapSelf fun y => y.withOwnRequest r c x (s.limitedDemand e r d) b).pace r b x)).outer
    exact (h.trans (shedGuard_notice _).outer).ite h

theorem outer_meetTarget (s : State) (r : Resource) (n : Nat) : OuterSame s (s.meetTarget r n) := by
  unfold State.meetTarget
  split
  · exact .refl s
  · exact (setTarget_notice s r none).outer.ite (.refl s)

theorem outer_applyOwnRelease (s : State) (r : Resource) (n : Nat) :
    OuterSame s (s.applyOwnRelease r n) := by
  unfold State.applyOwnRelease
  have h := ((mapSelf_notice s fun e => e.withRelease r n).outer.trans
    (outer_meetTarget _ r n)).trans (selfChanged_notice _).outer
  exact (h.trans (shedGuard_notice _).outer).ite h

theorem outer_requestDone (s : State) (a v : Bool) : OuterSame s (s.requestDone a v) := by
  unfold State.requestDone
  split
  · next r _ _ _ _ _ =>
    have h := (outer_completeOwn s a s.isMember).trans (outer_recordOutcome _ r (!(v || s.lnk.vetoDriven)))
    exact (h.trans (outer_applyOwnRequest _ _ _ _ _ _)).ite h
  · exact .refl s

theorem outer_releaseDone (s : State) (a : Bool) : OuterSame s (s.releaseDone a) := by
  unfold State.releaseDone
  split
  · have h := outer_completeOwn s a false
    exact (h.trans (outer_applyOwnRelease _ _ _)).ite h
  · exact .refl s

theorem outer_supplyDone (s : State) (a : Bool) : OuterSame s (s.supplyDone a) := by
  unfold State.supplyDone
  split
  · have h := outer_completeOwn s a false
    exact (h.trans (outer_applySupply _ _ _ _)).ite h
  · exact .refl s

theorem outer_setpointDone (s : State) (a : Bool) : OuterSame s (s.setpointDone a) := by
  unfold State.setpointDone
  split
  · have h := outer_completeOwn s a false
    exact (h.trans (outer_offerSetpoint _ _ _ _ _)).ite h
  · exact .refl s

theorem outer_parkDone (s : State) (a : Bool) : OuterSame s (s.parkDone a) := by
  unfold State.parkDone
  split
  · have h := outer_completeOwn s a false
    exact (h.trans (outer_parkStation _ _ _ _)).ite h
  · exact .refl s

theorem outer_startCensus (s : State) : OuterSame s s.startCensus :=
  (outer_setMbr s _).ite (.refl s)

theorem outer_startStateTimer (s : State) : OuterSame s s.startStateTimer := outer_setTxq s _

theorem outer_joinDone (s : State) (a : Bool) : OuterSame s (s.joinDone a) := by
  unfold State.joinDone
  split
  · have h := (outer_completeOwn s a false).trans (outer_startCensus _)
    exact (h.trans (outer_startStateTimer _)).ite h
  · exact .refl s

theorem outer_stateDone (s : State) (a : Bool) : OuterSame s (s.stateDone a) := by
  unfold State.stateDone
  split
  · have h := outer_completeOwn s a false
    exact (h.trans (outer_startStateTimer _)).ite h
  · exact .refl s

theorem outer_wakeDone (s : State) (a : Bool) : OuterSame s (s.wakeDone a) := by
  unfold State.wakeDone
  split
  · exact outer_completeOwn s a false
  · exact .refl s

theorem outer_voidDone (s : State) : OuterSame s s.voidDone := by
  unfold State.voidDone
  split
  · exact (((outer_endFrame s).trans (outer_setTxq _ _)).trans (outer_bump _ _)).trans
      (outer_countTxVoid _)
  · exact .refl s

/-! ### Line -/

theorem outer_lineIdle (s : State) : OuterSame s s.lineIdle := by
  unfold State.lineIdle
  exact (((outer_setLnk s _).trans (outer_setMbr _ _)).ite (outer_setLnk s _)).ite (.refl s)

theorem outer_startBitRead (s : State) : OuterSame s s.startBitRead :=
  ((outer_setLnk s _).trans (outer_setMbr _ _)).ite (.refl s)

theorem outer_dominantBit (s : State) (k : Option (Fin 7)) : OuterSame s (s.dominantBit k) := by
  unfold State.dominantBit
  split
  · exact (outer_setLnk s _).ite (.refl s)
  · exact (outer_setLnk s _).ite (.refl s)

theorem outer_transmit (s : State) : OuterSame s s.transmit := (outer_offer 12 s).ite (.refl s)

theorem outer_loseArbitration (s : State) : OuterSame s s.loseArbitration :=
  (((outer_setLnk s _).trans (outer_setTxq _ _)).trans (outer_bump _ _)).ite (.refl s)

theorem outer_bitError (s : State) : OuterSame s s.bitError :=
  ((((outer_breakFrame s).trans (outer_setTxq _ _)).trans (outer_bump _ _)).trans
    (outer_countTxVoid _)).ite (.refl s)

theorem outer_framingFailure (s : State) (c : FramingCause) : OuterSame s (s.framingFailure c) := by
  unfold State.framingFailure
  have h := (outer_breakFrame s).trans (outer_bump _ .voidsSeen)
  exact (((h.trans (outer_bump _ _)).trans (outer_countRxFault _)).ite h).ite (.refl s)

theorem outer_driveVerdict (s : State) (c : Claim) : OuterSame s (s.driveVerdict c) := by
  unfold State.driveVerdict
  split
  · exact outer_setLnk s _
  · exact ((outer_setCjg s _).trans (outer_setLnk _ _)).trans (outer_bump _ _)

theorem outer_judgeOwn (s : State) : OuterSame s s.judgeOwn := by
  unfold State.judgeOwn
  split
  · split
    · exact .refl s
    · exact (outer_driveVerdict s _).trans (outer_setVerdict _ _ _)
  · exact .refl s

theorem outer_judgeHeard (s : State) (b : RxBody) : OuterSame s (s.judgeHeard b) := by
  unfold State.judgeHeard
  split
  · split
    · exact .refl s
    · exact outer_driveVerdict s _
  · exact .refl s

/-! ### Timers -/

theorem outer_ageTick (s : State) : OuterSame s s.ageTick := by
  unfold State.ageTick
  split
  · exact .refl s
  · exact ((outer_setStb s _).trans (outer_lapses _ _)).trans (tableChanged_notice _).outer

theorem outer_untrackedEnd (s : State) : OuterSame s s.untrackedEnd := by
  unfold State.untrackedEnd
  split
  · exact .refl s
  · exact outer_setStb s _

theorem outer_supplyExpired (s : State) (r : Resource) : OuterSame s (s.supplyExpired r) := by
  unfold State.supplyExpired
  split
  · exact .refl s
  · exact .refl s
  · exact ((outer_setCsr s _).trans (outer_ask _ _)).ite (outer_setCsr s _)

theorem outer_stateExpired (s : State) : OuterSame s s.stateExpired := by
  unfold State.stateExpired
  split
  · exact .refl s
  · exact ((outer_setTxq s _).trans (outer_ask _ _)).ite (outer_setTxq s _)

theorem outer_settled (s : State) : OuterSame s s.settled := by
  unfold State.settled
  split
  · exact .refl s
  · exact (outer_enterJoining s).ite (outer_setMbr s _)

theorem outer_censusEnd (s : State) : OuterSame s s.censusEnd := by
  unfold State.censusEnd
  split
  · exact .refl s
  · exact (outer_enterMember s).ite (outer_setMbr s _)

theorem outer_silenceEnd (s : State) : OuterSame s s.silenceEnd := by
  unfold State.silenceEnd
  split
  · exact .refl s
  · exact .refl s
  · exact ((outer_setMbr s _).trans (outer_selfLapse _)).ite (outer_setMbr s _)

theorem outer_quietEnd (s : State) : OuterSame s s.quietEnd := by
  unfold State.quietEnd
  split
  · exact .refl s
  · exact ((outer_setLnk s _).trans (outer_enterJoining _)).ite (outer_setLnk s _)

theorem outer_wakeEnd (s : State) : OuterSame s s.wakeEnd := by
  unfold State.wakeEnd
  split
  · exact .refl s
  · exact (outer_wakeAndCall s _).ite (outer_setMbr s _)

theorem outer_freezeSample (s : State) (n : BitVec 12) : OuterSame s (s.freezeSample n) := by
  unfold State.freezeSample
  split
  · exact .refl s
  · exact (((outer_setZlp s _).trans (outer_wakeFrozen _)).ite
      ((outer_setZlp s _).trans (outer_setMbr _ _))).ite (outer_setMbr s _)

theorem outer_wakePin (s : State) : OuterSame s s.wakePin :=
  (outer_wakeAndCall s _).ite (.refl s)

/-! ### Zone Loop -/

theorem outer_forceRelease (s : State) (r : Resource) (t : Nat) :
    OuterSame s (s.forceRelease r t) := (forceRelease_notice s r t).outer

theorem outer_raiseFault (s : State) (a b : Bool) (n : Nat) : OuterSame s (s.raiseFault a b n) :=
  (outer_raise s _ _ _ _ _).ite (.refl s)

theorem outer_returnFaultRelease (s : State) (a b : Bool) :
    OuterSame s (s.returnFaultRelease a b) :=
  ((outer_forceRelease s _ _).trans (outer_forceRelease _ _ _)).ite (.refl s)

theorem outer_stageFaults (s : State) (img : Image) : OuterSame s (s.stageFaults img) :=
  ((((outer_setZlp s _).trans (outer_raiseFault _ _ _ _)).trans (outer_raiseFault _ _ _ _)).trans
    (outer_raiseFault _ _ _ _)).trans (outer_returnFaultRelease _ _ _)

theorem outer_releaseUnused (s : State) (m : ZoneMode) (r : Resource) :
    OuterSame s (s.releaseUnused m r) := (OuterSame.refl s).ite (outer_forceRelease s _ _)

theorem outer_changeover (s : State) (m : ZoneMode) (e : Entry) : OuterSame s (s.changeover m e) :=
  (((outer_setZlp s _).trans (outer_releaseUnused _ _ _)).trans (outer_releaseUnused _ _ _)).trans
    (outer_releaseUnused _ _ _)

theorem outer_stageMode (s : State) (p : SetpointRecord) (e : Entry) :
    OuterSame s (s.stageMode p e) := by
  unfold State.stageMode
  have h := (outer_setMbr s { s.mbr with freezeWake := keepsFreeze s.mbr.freezeWake s.zlp.zone }).trans
    (outer_setZlp _ (s.zlp.autoMode p.mode (s.after Config.switchTime)))
  exact (h.trans (outer_setZlp _ _)).ite (h.trans (outer_changeover _ _ _))

theorem outer_stageLoop (s : State) (img : Image) : OuterSame s (s.stageLoop img) := by
  unfold State.stageLoop
  dsimp only
  split
  · exact outer_setZlp s _
  · split <;> exact outer_setZlp s _

theorem outer_frostSeen (s : State) (e : Entry) : OuterSame s (s.frostSeen e) := by
  unfold State.frostSeen
  exact (((outer_setZlp s _).trans (outer_forceRelease _ _ _)).ite (outer_setZlp s _)).ite (.refl s)

theorem outer_stageFrost (s : State) (e : Entry) : OuterSame s (s.stageFrost e) := by
  unfold State.stageFrost
  have h := (outer_frostSeen s e).trans (outer_setZlp _ (s.frostSeen e).zlp.frostGuarded)
  exact (h.trans (outer_setZlp _ _)).ite h

theorem outer_stagesToDemand (s : State) (img : Image) (p : SetpointRecord) (e : Entry) :
    OuterSame s (s.stagesToDemand img p e) :=
  ((((outer_stageFaults s img).trans (outer_setZlp _ _)).trans (outer_stageMode _ _ _)).trans
    (outer_stageLoop _ _)).trans (outer_stageFrost _ _)

theorem outer_stageEntry (s : State) (img : Image) (e : Entry) : OuterSame s (s.stageEntry img e) := by
  unfold State.stageEntry
  have h := (mapSelf_notice s fun x => x.atInterval s.zlp img).outer
  exact (h.trans (outer_ask _ _)).ite h

theorem outer_stagesToEntry (s : State) (img : Image) (e : Entry) :
    OuterSame s (s.stagesToEntry img e) :=
  ((((outer_setZlp s _).trans (outer_setZlp _ _)).trans (outer_setZlp _ _)).trans
    (evalInterlock_notice _ _ _).outer).trans (outer_stageEntry _ _ _)

theorem outer_openHold (s : State) : OuterSame s s.openHold := by
  unfold State.openHold
  split
  · exact .refl s
  · exact (outer_setZlp s _).trans (outer_raise _ _ _ _ _ _)

theorem outer_doorAtFirst (s : State) (img : Image) (b : Bool) : OuterSame s (s.doorAtFirst img b) :=
  (outer_openHold s).ite (.refl s)

theorem outer_stages (s : State) (img : Image) (p : SetpointRecord) (e : Entry) :
    OuterSame s (s.stages img p e) :=
  ((((outer_stagesToDemand s img p e).trans (outer_stagesToEntry _ _ _)).trans
    (outer_doorAtFirst _ _ _)).trans (recomputeCaps_notice _).outer).trans (outer_pushDamper _ _)

theorem outer_decideClaim (s : State) (r : Resource) : OuterSame s (s.decideClaim r) := by
  unfold State.decideClaim
  split
  · exact .refl s
  · exact (outer_ask s _).ite ((outer_ask s _).ite (.refl s))

theorem outer_cutAgain (s : State) (r : Resource) : OuterSame s (s.cutAgain r) :=
  (computeCut_notice s r).outer.ite (.refl s)

theorem outer_yieldShare (s : State) (r : Resource) : OuterSame s (s.yieldShare r) := by
  unfold State.yieldShare
  split
  · exact .refl s
  · exact (offerTarget_notice s _ _).outer.ite (.refl s)

theorem outer_eachResource {f : State → Resource → State} (h : ∀ s r, OuterSame s (f s r))
    (s : State) : OuterSame s (s.eachResource f) :=
  ((h s .cool).trans (h _ .heat)).trans (h _ .power)

theorem outer_interval (s : State) : OuterSame s s.interval := by
  unfold State.interval
  split
  · exact .refl s
  · dsimp only
    split
    · refine OuterSame.ite ?_ (outer_setZlp s _)
      exact ((((((outer_setZlp s _).trans (outer_setZlp _ _)).trans (outer_closeWindow _)).trans
        (outer_stages _ _ _ _)).trans (outer_eachResource outer_decideClaim _)).trans
        (outer_eachResource outer_cutAgain _)).trans (outer_eachResource outer_yieldShare _)
    · exact outer_setZlp s _

theorem outer_doorOpened (s : State) : OuterSame s s.doorOpened := by
  unfold State.doorOpened
  split
  · exact outer_openHold s
  · exact .refl s
  · exact outer_setZlp s _

theorem outer_doorClosed (s : State) (img : Image) : OuterSame s (s.doorClosed img) := by
  unfold State.doorClosed
  split
  · exact .refl s
  · exact (outer_endDoorHold s).ite (outer_setZlp s _)
  · exact .refl s

theorem outer_doorHeld (s : State) (b : Bool) : OuterSame s (s.doorHeld b) := by
  unfold State.doorHeld
  split
  · exact .refl s
  · exact ((outer_doorOpened s).ite (outer_doorClosed s _)).ite (.refl s)

theorem outer_doorChange (s : State) (b : Bool) : OuterSame s (s.doorChange b) := by
  unfold State.doorChange
  exact (outer_setZlp s _).ite ((OuterSame.refl s).ite
    ((outer_setZlp s _).trans (outer_doorHeld _ _)))

theorem outer_holdEnd (s : State) : OuterSame s s.holdEnd := by
  unfold State.holdEnd
  split
  · exact .refl s
  · exact (outer_endDoorHold s).ite (outer_setZlp s _)

theorem outer_sensorSample (s : State) (x : Sensor) (n : BitVec 12) :
    OuterSame s (s.sensorSample x n) := by
  unfold State.sensorSample
  split
  · exact .refl s
  · exact (outer_setZlp s _).ite (.refl s)

/-! ### Channels -/

theorem outer_stepDone (s : State) (b : Bool) : OuterSame s (s.stepDone b) :=
  ((outer_changeDamper s _).trans (outer_raise _ _ _ _ _ _)).ite (outer_changeDamper s _)

theorem outer_endStopActive (s : State) : OuterSame s s.endStopActive :=
  (outer_changeDamper s _).ite ((outer_changeDamper s _).trans (outer_changeDamper _ _))

theorem outer_tach (s : State) : OuterSame s s.tach := by
  unfold State.tach
  have h := (outer_drawn s).trans (outer_setDcc _ (s.dcc.edgeSeen s.clock s.free))
  exact ((h.trans (outer_raise _ _ _ _ _ _)).ite h).ite (.refl s)

theorem outer_raiseStall (s : State) : OuterSame s s.raiseStall := by
  unfold State.raiseStall
  have h := outer_raise s blowerOrigin .blowerStall none none (some s.dcc.fan.stallCount)
  exact (h.trans (outer_raise _ _ _ _ _ _)).ite h

theorem outer_stalled (s : State) : OuterSame s s.stalled := by
  unfold State.stalled
  split
  · exact .refl s
  · exact ((outer_changeDrives s _).trans (outer_raiseStall _)).trans (blowerReport_notice _).outer

theorem outer_restartEnd (s : State) : OuterSame s s.restartEnd := by
  unfold State.restartEnd
  split
  · exact .refl s
  · exact (outer_changeDrives s _).trans (blowerReport_notice _).outer

theorem outer_goodRun (s : State) : OuterSame s s.goodRun := by
  unfold State.goodRun
  split
  · exact .refl s
  · exact outer_setDcc s _

end Sys2Proof.Machine
end

