-- ==== Sys2Proof/Laws/Reports.lean ====
section
/-! SUPPORT. The events that the shared operations of an arrival raise: the seating of a frame's sender (R7, R9, R13), a SUPPLY's records (R55), the notice of a table change (R40). -/

namespace Sys2Proof.Machine

/-- The records of the events waiting to be entered. -/
def State.records (s : State) : List EventRecord := s.raised.map (·.record)

@[simp] theorem records_raise (s : State) (o : Origin) (k : EventKind) (p : Option Nat)
    (r : Option Resource) (v : Option Nat) :
    (s.raise o k p r v).records = s.records ++ [s.event k p r v] := by
  simp [State.records, State.raise, State.setRaised, State.event]

theorem CapsOnly.records {s t : State} (h : CapsOnly s t) : t.records = s.records := by
  unfold State.records; rw [h.raised]

/-- R42, R43: a cut raises no event. -/
theorem computeCut_records (s : State) (r : Resource) : (s.computeCut r).records = s.records := by
  unfold State.computeCut
  split
  · rfl
  · dsimp only
    split
    · unfold State.offerTarget
      split
      · exact ((recomputeCaps_caps _).trans (ask_caps _ _)).records
      · rfl
    · rfl

/-- R40: the event of one flag going from `was` to what the table and the records make it. -/
def State.flagEvent (s : State) (r : Resource) : List EventRecord :=
  if decide ((s.csr.capacity.get r).value < s.stb.total r) = s.cjg.overdraw.get r then []
  else if (s.csr.capacity.get r).value < s.stb.total r then
    [s.event .overdrawBegin none (some r)
      (some (s.stb.total r - (s.csr.capacity.get r).value))]
  else [s.event .overdrawEnd none (some r) (some (s.stb.total r))]

theorem evalOverdraw_records (s : State) (r : Resource) :
    (s.evalOverdraw r).records = s.records ++ s.flagEvent r := by
  unfold State.evalOverdraw State.flagEvent
  dsimp only
  by_cases hc : (s.csr.capacity.get r).value < s.stb.total r
  · cases ho : s.cjg.overdraw.get r
    · simp only [hc, if_true, decide_true, Bool.false_eq_true, if_false, Bool.true_eq_false]
      have hr : ∀ x : State, x.records = s.records ++ [s.event .overdrawBegin none (some r)
          (some (s.stb.total r - (s.csr.capacity.get r).value))] →
          (if x.isMember = true then x.computeCut r else x).records = s.records ++
            [s.event .overdrawBegin none (some r)
              (some (s.stb.total r - (s.csr.capacity.get r).value))] := by
        intro x hx
        split
        · rw [computeCut_records, hx]
        · exact hx
      exact hr _ (records_raise (s.setOverdraw r true) _ _ _ _ _)
    · simp [hc]
  · cases ho : s.cjg.overdraw.get r
    · simp [hc]
    · simp only [hc, if_false, decide_false, if_true, Bool.false_eq_true]
      exact records_raise (s.setOverdraw r false) _ _ _ _ _

/-- R40: the events of the notice of a table change are those of the flags it moves. -/
theorem tableChanged_records (s : State) :
    s.tableChanged.records = s.records ++ s.overdrawEvents s.tableChanged := by
  have h1 := evalOverdraw_table s .cool
  have h2 := evalOverdraw_table (s.evalOverdraw .cool) .heat
  have o1 := evalOverdraw_overdraw s .cool
  have o2 := evalOverdraw_overdraw (s.evalOverdraw .cool) .heat
  have o3 := evalOverdraw_overdraw ((s.evalOverdraw .cool).evalOverdraw .heat) .power
  have hf : ∀ (a b : State) r, TableNotice a b → b.cjg.overdraw.get r = a.cjg.overdraw.get r →
      b.flagEvent r = a.flagEvent r := by
    intro a b r h k
    have he : ∀ kind p r v, b.event kind p r v = a.event kind p r v := by
      intro kind p r v; simp only [State.event, State.eventTime, h.notice.clock]
    simp only [State.flagEvent, h.total, h.notice.csr, k, he]
  have k2 : (s.evalOverdraw .cool).flagEvent .heat = s.flagEvent .heat :=
    hf _ _ _ h1 (by rw [o1]; rfl)
  have k3 : ((s.evalOverdraw .cool).evalOverdraw .heat).flagEvent .power = s.flagEvent .power :=
    hf _ _ _ (h1.trans h2) (by rw [o2, o1]; rfl)
  have h := tableChanged_table s
  have hev : s.overdrawEvents s.tableChanged =
      s.flagEvent .cool ++ s.flagEvent .heat ++ s.flagEvent .power := by
    have flag : ∀ r, s.tableChanged.cjg.overdraw.get r =
        decide ((s.csr.capacity.get r).value < s.stb.total r) := by
      intro r
      have k := tableChanged_agrees s r
      rw [k, h.total, h.notice.csr]
    have one : ∀ r, (if s.tableChanged.cjg.overdraw.get r = s.cjg.overdraw.get r then none
        else if s.tableChanged.cjg.overdraw.get r then
          some (s.event .overdrawBegin none (some r) (some (s.tableChanged.stb.total r -
            (s.tableChanged.csr.capacity.get r).value)))
        else some (s.event .overdrawEnd none (some r) (some (s.tableChanged.stb.total r)))) =
        (s.flagEvent r).head? ∧ (s.flagEvent r).length ≤ 1 := by
      intro r
      rw [flag, h.total, h.notice.csr]
      unfold State.flagEvent
      by_cases hc : (s.csr.capacity.get r).value < s.stb.total r <;>
        cases s.cjg.overdraw.get r <;>
        simp only [hc, decide_true, decide_false, Bool.true_eq_false, Bool.false_eq_true, if_true,
          if_false, List.head?_nil, List.head?_cons, List.length_nil, List.length_singleton,
          Nat.zero_le, Nat.le_refl, and_self]
    have cat : ∀ l : List EventRecord, l.length ≤ 1 → l.head?.toList = l := by
      intro l hl
      cases l with
      | nil => rfl
      | cons a l => cases l with
        | nil => rfl
        | cons b l => simp at hl
    have fm : ∀ f : Resource → Option EventRecord,
        resources.filterMap f = (f .cool).toList ++ (f .heat).toList ++ (f .power).toList := by
      intro f
      simp only [resources, List.filterMap_cons, List.filterMap_nil]
      cases f .cool <;> cases f .heat <;> cases f .power <;> rfl
    unfold State.overdrawEvents State.flagEvents
    rw [fm, (one .cool).1, (one .heat).1, (one .power).1, cat _ (one .cool).2,
      cat _ (one .heat).2, cat _ (one .power).2]
  unfold State.tableChanged at hev ⊢
  rw [hev, evalOverdraw_records, evalOverdraw_records, evalOverdraw_records, k2, k3]
  simp [List.append_assoc]

/-- R7, R9, R13: the event of seating the sender of a frame that may make an entry. -/
theorem seat_records (s : State) (address : Nat) (f : FrameBody) (made : Entry)
    (h : createdBy address f = some made) (ha : made.address = address) :
    (s.seat address f).records = s.records ++ s.seatEvents address := by
  unfold State.seat State.seatEvents
  cases hp : s.stb.peer address with
  | some e =>
    dsimp only
    cases he : e.present
    · simp only [Bool.false_eq_true, if_false, h]
      exact records_raise (s.setStb _) _ _ _ _ _
    · simp only [if_true, List.append_nil]; rfl
  | none =>
    simp only [h]
    unfold State.create ShareTable.hasPlace
    by_cases hl : s.stb.order.length < 11
    · have : s.stb.order.length + 1 < Config.tablePlaces := by
        simp only [Config.tablePlaces]; omega
      simp only [this, decide_true, if_true, hl, true_or, ha]
      exact records_raise (s.setStb _) _ _ _ _ _
    · have : ¬ s.stb.order.length + 1 < Config.tablePlaces := by
        simp only [Config.tablePlaces]; omega
      simp only [this, decide_false, Bool.false_eq_true, if_false, hl, false_or]
      cases hv : evictFrom s.stb.order with
      | some es =>
        simp only [Option.isSome_some, if_true, ha]
        exact records_raise (s.setStb _) _ _ _ _ _
      | none =>
        simp only [Option.isSome_none, Bool.false_eq_true, if_false]
        unfold State.unrecorded
        cases hu : s.stb.untracked
        · simp only [Bool.false_eq_true, if_false, ha]
          exact records_raise (s.setStb _) _ _ _ _ _
        · simp only [if_true, List.append_nil]; rfl

/-- R6: a frame that makes no entry raises nothing at the table. -/
theorem seat_records_none (s : State) (address : Nat) (f : FrameBody)
    (h : createdBy address f = none) : (s.seat address f).records = s.records := by
  unfold State.seat
  split
  · split
    · rfl
    · rw [h]
  · rw [h]

/-- R55: the events of an applied SUPPLY's records. -/
theorem supplyNamed_reports (s : State) (a : Nat) (fb : Bool) (vs : Per (Option Nat))
    (r : Resource) : (s.supplyNamed a fb vs r).records = s.records ++
      (match vs.get r with
       | none => []
       | some v => if fb = true ∧ (s.csr.capacity.get r).state ≠ .lapsed then
           [s.event .capacityLapse (some a) (some r) (some v)] else []) := by
  unfold State.supplyNamed
  cases vs.get r with
  | none => simp
  | some v =>
    unfold State.supplyRecord
    dsimp only
    by_cases h : fb = true ∧ (s.csr.capacity.get r).state ≠ .lapsed
    · rw [if_pos (by simpa using h), if_pos h]
      exact records_raise (s.setCsr _) _ _ _ _ _
    · rw [if_neg (by simpa using h), if_neg h, List.append_nil]; rfl

/-- R189: what a command of the running part reports, its events being those of `x`. -/
theorem reports_of {s x : State} {es : List EventRecord} (hv : x.svc = s.svc)
    (hx : x.records = es) : s.Reports x.flush es := by
  obtain ⟨rs, hp, hs⟩ := State.flush_svc_perm x
  exact ⟨rs, hx ▸ hp, by rw [hs, hv]⟩

end Sys2Proof.Machine
end

