-- ==== Sys2Proof/WellFormed.lean ====
section
/-! DEFINITION. Which terms of Instr name a command that can reach the part: the operand ranges the spec gives. -/

namespace Sys2Proof

/-- R67: a frame that a receiver follows to its slots has a length field of 0..40. -/
def RxBody.lengthOk (b : RxBody) : Bool := decide (b.payload.length ≤ 40)

/-- R181, R182: a command carries at most 8 payload bytes. -/
def ServiceMessage.lengthOk (m : ServiceMessage) : Bool := decide (m.payload.length ≤ 8)

/-- Only lengths are checked: those of frames (R67), of messages (R182) and of the 64-byte block (R175). What a frame or a message carries is the part's own test (R72, R183), and the check value and the slots are what the arrival is decided by (R81). -/
def Instr.wellFormed : Instr → Bool
  | .configReadEnd block => decide (block.length = 64)
  | .requestJudged heard => heard.all RxBody.lengthOk
  | .malformedArrival _ b _ => b.lengthOk
  | .voidArrival _ b _ => b.lengthOk
  | .addressClash _ b _ => b.lengthOk
  | .requestArrival b _ => b.lengthOk
  | .releaseArrival b _ => b.lengthOk
  | .supplyArrival b _ => b.lengthOk
  | .setpointArrival b _ => b.lengthOk
  | .stateArrival b _ => b.lengthOk
  | .joinArrival b _ => b.lengthOk
  | .parkArrival b _ => b.lengthOk
  | .wakeArrival b _ => b.lengthOk
  | .status m => m.lengthOk
  | .entry m => m.lengthOk
  | .capacity m => m.lengthOk
  | .setpointRead m => m.lengthOk
  | .setpointSet m => m.lengthOk
  | .offsetSet m => m.lengthOk
  | .events m => m.lengthOk
  | .counters m => m.lengthOk
  | .clearCounters m => m.lengthOk
  | .cause m => m.lengthOk
  | .clearFault m => m.lengthOk
  | .park m => m.lengthOk
  | .mask m => m.lengthOk
  | .vlogFall | .vlogRise | .resetnLow | .resetnHigh | .supplySample _ | .recoveryTimerExpiry
  | .readyPollStatus _ | .configReadTimeout | .linkIdle | .transmissionStart | .arbitrationLost
  | .bitError | .framingFailure _ | .ownRequestCompletion _ _ | .ownReleaseCompletion _
  | .ownSupplyCompletion _ | .ownSetpointCompletion _ | .ownParkCompletion _ | .ownJoinCompletion _
  | .ownStateCompletion _ | .ownWakeCompletion _ | .voidCompletion | .ageTickExpiry
  | .untrackedTimerExpiry | .supplyTimerExpiry _ | .stateTimerExpiry | .refusalHoldOffExpiry _
  | .spacingExpiry _ | .settleTimerExpiry | .censusTimerExpiry | .selfSilenceExpiry
  | .quietTimerExpiry | .wakeTimerExpiry | .sampleTimerExpiry _ | .wakeinActive
  | .controlIntervalExpiry | .switchTimerExpiry | .boostTimerExpiry | .doorInputChange _
  | .holdTimerExpiry | .frostTimerExpiry | .sensorSample _ _ | .periodEnd _ | .coolValveRestEnd
  | .stepTimerExpiry _ | .deadTimerExpiry | .dmpendActive | .tachEdge | .stallTimerExpiry
  | .restartTimerExpiry | .goodRunTimerExpiry | .serviceByteReceived _ _ | .interByteTimerExpiry
  | .answerSent | .startBitRead | .dominantBitInSeekingIdle _ | .onTimePassed _ => true

end Sys2Proof
end

