-- ==== Sys2Proof/Tests/Slice0.lean ====
section
/-! SUPPORT. Small tests: the ill-formed terms the checks refuse, one step of each command on a small state, examples of the spec, and states that meet the premises of each statement. -/

namespace Sys2Proof.Tests

open Sys2Proof Sys2Proof.Machine

set_option Elab.async false

/-! ### Well-formedness -/

/-- A frame body of `n` payload bytes. -/
def bodyOf (n : Nat) : RxBody := { urgency := 0, source := 1, payload := List.replicate n 0, check := 0 }

/-- No slot driven by another station. -/
def noSlots : Slots := { ack := false, fault := false, veto := false }

/-- A message of `n` payload bytes. -/
def messageOf (n : Nat) : ServiceMessage := { payload := List.replicate n 0, checksum := 0 }

/-- The rows whose operand is the body of a frame. -/
def frameRows : List (RxBody → Instr) :=
  [fun b => .requestJudged (some b), fun b => .malformedArrival 0 b noSlots,
    fun b => .voidArrival 0 b noSlots, fun b => .addressClash 0 b noSlots,
    fun b => .requestArrival b noSlots, fun b => .releaseArrival b noSlots,
    fun b => .supplyArrival b noSlots, fun b => .setpointArrival b noSlots,
    fun b => .stateArrival b noSlots, fun b => .joinArrival b noSlots,
    fun b => .parkArrival b noSlots, fun b => .wakeArrival b noSlots]

theorem test_block_of_63_bytes_is_refused :
    (Instr.configReadEnd (List.replicate 63 0)).wellFormed = false ∧
      (Instr.configReadEnd (List.replicate 65 0)).wellFormed = false ∧
      (Instr.configReadEnd (List.replicate 64 0)).wellFormed = true := by decide

theorem test_frames_of_41_bytes_are_refused :
    (frameRows.all fun row => !(row (bodyOf 41)).wellFormed) = true ∧
      (frameRows.all fun row => (row (bodyOf 40)).wellFormed) = true := by decide

theorem test_messages_of_9_bytes_are_refused :
    (serviceRows.all fun row => !(row.2 (messageOf 9)).wellFormed) = true ∧
      (serviceRows.all fun row => (row.2 (messageOf 8)).wellFormed) = true := by decide

theorem test_no_word_spells_a_command : decodeTableWord 16 0 = none ∧
    State.reset.withFetchWord 16 0 = State.reset := by decide

/-! ### States the tests start from -/

/-- A small image: station 3, weight 2, one pinned peer 7. -/
def img : Image :=
  { address := 3, weight := 2, floor := ⟨20, 10, 8⟩, coolRating := 200, heatRating := 160
    blowerFull := 40, airflowMin := 300, ventDuty := 400, gainP := 16, gainI := 8
    boostThreshold := 20, doorEnabled := true, outdoorPresent := true, holdTime := 10
    zoneOffset := 0, returnCal := ⟨1200, 320⟩, dischargeCal := ⟨1200, 320⟩
    outdoorCal := ⟨1200, 320⟩, travel := 100, minFresh := 200, fallback := ⟨600, 600, 600⟩
    defaultSetpoint := 220, defaultMode := .auto, pinned := [7], defaultMask := 0x3FFFFF#32 }

/-- A capacity record of 600. -/
def record : CapacityRecord := { CapacityRecord.reset with value := 600 }

/-- A duty channel at 500 ‰. -/
def half : Channel := { cap := 500, active := 500, buffered := 500, on := true, start := some 0 }

/-- A member with its link idle, its damper homed at 40, POWER and HEAT held. -/
def mem : State :=
  { State.reset with
    stb := { ShareTable.started img false (some Config.ageTick) with
      self := some { selfStart img false with
        committed := ⟨0, 80, 20⟩, demand := ⟨some 0, some 80, some 20⟩, mode := some .heat } }
    csr := { capacity := .all record, setpoint := some ⟨220, .heat, 5, 3⟩ }
    lnk := { Link.reset with state := .idle }
    mbr := { Membership.reset with station := .member, selfSilence := .running 9 }
    zlp := { ZoneLoop.reset false with
      zone := .valid 210, discharge := .valid 300, outdoor := .valid 100, target := some 220
      activeMode := some .heat, demand := ⟨0, 80, 20⟩, controlTimer := some 9
      interlock := false, blowerDuty := 500 }
    dcc := { Drives.reset false with
      blower := half, heat := half, cool := { Channel.reset with start := some 0 }
      damper := { Damper.reset false with homed := .homed, position := some 40, target := 40 } }
    cfg := { ConfigReader.reset with image := some img }
    svc := { ServiceLine.reset with mask := 0x3FFFFF#32 } }

/-- The same in another station state. -/
def inStation (x : Station) : State := mem.setMbr { mem.mbr with station := x }

/-- The link receiving a frame. -/
def rcv (s : State) : State := s.setLnk { s.lnk with state := .receiving }

/-- The link sending a frame of a key. -/
def snd (s : State) (k : Key) (f : FrameBody) : State :=
  (s.setLnk { s.lnk with state := .transmitting, wire := some f }).setTxq
    { s.txq with onWire := some k }

/-- A present peer. -/
def peer (a cool : Nat) : Entry :=
  { Entry.bare a with weight := some 1, committed := ⟨cool, 0, 0⟩, floor := .all (some 0)
                      demand := ⟨some cool, some 0, some 0⟩ }

/-- A state with these entries in its recency order. -/
def withPeers (s : State) (es : List Entry) : State := s.setStb { s.stb with order := es }

/-- A state with a restart hold. -/
def heldBy (h : Holds) : State :=
  State.reset.setSup { State.reset.sup with standing := h, noted := h }

/-- A state on its way through the configuration read. -/
def reading (p : ReadPhase) : State := State.reset.setCfg { ConfigReader.begun with phase := p }

/-- What a command answers, where it answers a next state. -/
def after (c : Instr) (s : State) : State :=
  match exec c s with
  | .next t => t
  | .fault _ => s
  | .refused _ => s

/-- A configuration block with a version, an address, its last spare byte and its check value. -/
def block (version address spare check : Nat) : List Byte :=
  ([version, address, 2, 20, 10, 8, 0, 200, 0, 160, 0, 40, 1, 44, 1, 144, 16, 8, 20, 3, 10, 0] ++
    [4, 176, 1, 64, 4, 176, 1, 64, 4, 176, 1, 64, 100, 0, 200, 2, 88, 2, 88, 2, 88, 0, 220, 4] ++
    [1, 7, 0, 0, 0, 0, 63, 255, 255, 0, 0, 0, 0, 0, 0, spare, check / 256, check]).map
      (BitVec.ofNat 8)

/-- A message with its checksum. -/
def msg (command : Nat) (payload : List Byte) : ServiceMessage :=
  { payload := payload
    checksum := BitVec.ofNat 8 (512 - (payload.length + command + (payload.map (·.toNat)).sum) % 256) }

/-! ### One step of each command -/

theorem test_vlogFall : (after .vlogFall mem).held = true ∧
    (after .vlogFall mem).lnk.state = .off ∧ (after .vlogFall mem).dcc.blower.on = false := by
  decide +kernel

/-- VLOG has returned and no sample has been taken since. -/
def returned : State := after .vlogRise (heldBy ⟨true, false, false⟩)

theorem test_vlogRise : returned.held = true ∧ returned.sup.standing = ⟨false, false, false⟩ ∧
    returned.sup.awaiting = true := by decide +kernel

theorem test_first_sample_after_vlog :
    (after (.supplySample 170) returned).held = false ∧
    (after (.supplySample 170) returned).sup.cause = .powerOn ∧
    (after (.supplySample 169) returned).held = true ∧
    (after (.supplySample 184) (after (.supplySample 169) returned)).held = true ∧
    (after (.supplySample 185) (after (.supplySample 169) returned)).held = false ∧
    (after (.supplySample 185) (after (.supplySample 169) returned)).sup.cause = .powerOn := by
  decide +kernel

theorem test_resetnLow : (after .resetnLow mem).sup.standing = ⟨false, true, false⟩ := by
  decide +kernel

theorem test_resetnHigh : (after .resetnHigh (heldBy ⟨false, true, false⟩)).sup.cause = .pin := by
  decide +kernel

theorem test_supplySample : (after (.supplySample 205) mem).sup.level = .warn ∧
    (after (.supplySample 205) mem).txq.intents.claim.power = some (.release 8) ∧
    (after (.supplySample 169) mem).sup.level = .cut := by decide +kernel

theorem test_recoveryTimerExpiry :
    (after .recoveryTimerExpiry
      (mem.setSup { mem.sup with level := .warn, recovery := some 1 })).sup.level = .normal := by
  decide +kernel

theorem test_memory_is_selected_in_the_transfer :
    State.reset.memoryBits = [false, false, false, false, false, true, false, true] ∧
    State.reset.pins.cfsel = false ∧ (reading .transfer).pins.cfsel = true ∧
    (reading .transfer).memoryBits = byteBits [3#8, 0#8, 0#8] ∧
    (after .configReadTimeout (reading .transfer)).pins.cfsel = false ∧
    (after .configReadTimeout (reading .transfer)).pins.cfmosi = some false := by decide +kernel

theorem test_readyPollStatus :
    (after (.readyPollStatus 0xFE#8) State.reset).cfg.phase = .transfer ∧
      (after (.readyPollStatus 1#8) State.reset).cfg.phase = .readyPoll := by decide +kernel

theorem test_configReadEnd :
    (after (.configReadEnd (block 1 3 0 5179)) (reading .transfer)).cfg.image = some img ∧
      (after (.configReadEnd (block 1 3 0 5179)) (reading .transfer)).mbr.station = .settling := by
  decide +kernel

theorem test_configReadTimeout :
    (after .configReadTimeout State.reset).cfg.reason = .timeout ∧
      (after .configReadTimeout State.reset).mbr.station = .configFault := by decide +kernel

theorem test_linkIdle :
    (after .linkIdle (mem.setLnk { mem.lnk with state := .seekingIdle })).lnk.state = .idle := by
  decide +kernel

theorem test_startBitRead : (after .startBitRead mem).lnk.state = .receiving := by decide +kernel

theorem test_dominantBit :
    (after (.dominantBitInSeekingIdle (some 2)) (rcv mem)).lnk.endRun = 4 := by decide +kernel

theorem test_transmissionStart :
    (after .transmissionStart (mem.ask .state)).txq.onWire = some .state ∧
      (after .transmissionStart (mem.ask (.claim .power (.release 5)))).lnk.wire =
        some (.release .power 5) := by decide +kernel

theorem test_arbitrationLost : (after .arbitrationLost (snd mem .wake .wake)).lnk.state =
    .receiving := by decide +kernel

theorem test_bitError : (after .bitError (snd mem .wake .wake)).lnk.state = .flag ∧
    (after .bitError (snd mem .wake .wake)).lnk.txVoid = 1 := by decide +kernel

theorem test_framingFailure :
    (after (.framingFailure .stuffRecessive) (rcv mem)).lnk.rxFault = 1 ∧
      (after (.framingFailure .stuffDominant) (rcv mem)).lnk.rxFault = 0 := by decide +kernel

/-- A REQUEST of station 9 for 50 of COOL. -/
def request : FrameBody := .request .cool .comfort 0 50 50

theorem test_requestJudged :
    (after (.requestJudged (some (request.sent 9))) (rcv mem)).lnk.vetoDriven = false ∧
      (after (.requestJudged (some (request.sent 9)))
        (rcv (mem.setStb { mem.stb with untracked := true }))).cjg.lastVeto =
          some ⟨.cool, 9, 1⟩ := by decide +kernel

theorem test_malformedArrival :
    (after (.malformedArrival 7#3 ((FrameBody.join 0).sent 9) noSlots)
      (rcv mem)).lnk.counters.malformed.count = 1 := by decide +kernel

theorem test_voidArrival :
    (after (.voidArrival 1#3 (FrameBody.wake.sent 9) { noSlots with fault := true })
      (rcv mem)).lnk.counters.voidsSeen.count = 1 := by decide +kernel

theorem test_addressClash :
    (after (.addressClash 1#3 (FrameBody.wake.sent 3) noSlots) (rcv mem)).mbr.station =
      .isolated := by decide +kernel

theorem test_requestArrival :
    (after (.requestArrival (request.sent 9) noSlots)
      (rcv mem)).stb.order.map (fun e => (e.address, e.committed.cool)) = [(9, 50), (7, 0)] ∧
    (after (.requestArrival (request.sent 9) { noSlots with veto := true })
      (rcv mem)).stb.order.map (fun e => (e.address, e.committed.cool)) = [(9, 0), (7, 0)] := by
  decide +kernel

theorem test_releaseArrival :
    (after (.releaseArrival ((FrameBody.release .cool 30).sent 9) noSlots)
      (rcv (withPeers mem [peer 5 10, peer 9 70]))).stb.order.map
        (fun e => (e.address, e.committed.cool)) = [(9, 30), (5, 10)] := by decide +kernel

theorem test_supplyArrival :
    ((after (.supplyArrival ((FrameBody.supply false ⟨some 500, none, none⟩).sent 62) noSlots)
      (rcv mem)).csr.capacity.get .cool).state = .fresh := by decide +kernel

theorem test_setpointArrival :
    (after (.setpointArrival ((FrameBody.setpoint 230 .cool 6 9).sent 9) noSlots)
      (rcv mem)).csr.setpoint = some ⟨230, .cool, 6, 9⟩ := by decide +kernel

/-- What member 9 holds, as its STATE carries it. -/
def content : StateContent :=
  { member := true, shed := false, weight := 15, setMode := .auto, committed := ⟨40, 0, 12⟩
    demand := ⟨40, 0, 12⟩, floor := ⟨255, 0, 0⟩, capacity := ⟨1023, 600, 600⟩
    capacityState := ⟨.lapsed, .fresh, .default⟩, zone := some ⟨-32768, .cool⟩
    setpointValue := 300, setpointEpoch := 65535, setpointOrigin := 62
    outdoor := some ⟨32767, 255⟩ }

theorem test_stateArrival :
    ((after (.stateArrival ((FrameBody.state content).sent 9) noSlots)
      (rcv mem)).stb.peer 9).map (·.committed) = some ⟨40, 0, 12⟩ := by decide +kernel

theorem test_joinArrival :
    (after (.joinArrival ((FrameBody.join 4).sent 9) noSlots) (rcv mem)).txq.intents.state =
      true := by decide +kernel

theorem test_parkArrival :
    (after (.parkArrival ((FrameBody.park .light 30).sent 9) noSlots) (rcv mem)).mbr.station =
      .parkedLight := by decide +kernel

theorem test_wakeArrival :
    (after (.wakeArrival (FrameBody.wake.sent 9) noSlots)
      (rcv (inStation .parkedLight))).mbr.lastWake = .wakeFrame 9 := by decide +kernel

/-- An own REQUEST of 8 more POWER. -/
def ownRequest : FrameBody := .request .power .comfort 20 8 28

theorem test_ownRequestCompletion :
    ((after (.ownRequestCompletion true false)
      (snd mem (.claim .power) ownRequest)).stb.self.map (·.committed.power)) = some 28 ∧
    (after (.ownRequestCompletion true true)
      (snd mem (.claim .power) ownRequest)).txq.step.power = .atMost 4 := by decide +kernel

theorem test_ownReleaseCompletion :
    ((after (.ownReleaseCompletion true)
      (snd mem (.claim .heat) (.release .heat 60))).stb.self.map (·.committed.heat)) = some 60 := by
  decide +kernel

theorem test_ownSupplyCompletion :
    ((after (.ownSupplyCompletion true)
      (snd mem .supplyLapse (.supply true ⟨none, some 600, none⟩))).csr.capacity.get .heat).state =
        .lapsed := by decide +kernel

theorem test_ownSetpointCompletion :
    (after (.ownSetpointCompletion true)
      (snd mem .setpoint (.setpoint 160 .off 6 3))).csr.setpoint = some ⟨160, .off, 6, 3⟩ := by
  decide +kernel

theorem test_ownParkCompletion :
    (after (.ownParkCompletion true) (snd mem .park (.park .deep 0))).lnk.state = .off := by
  decide +kernel

theorem test_ownJoinCompletion :
    (after (.ownJoinCompletion false)
      (snd (inStation .joining) .join (.join 2))).mbr.censusTimer = some Config.censusTime := by
  decide +kernel

theorem test_ownStateCompletion :
    (after (.ownStateCompletion true) (snd mem .state (.state content))).txq.stateTimer =
      some Config.stateTime := by decide +kernel

theorem test_ownWakeCompletion :
    (after (.ownWakeCompletion true) (snd mem .wake .wake)).txq.onWire = none := by decide +kernel

theorem test_voidCompletion :
    (after .voidCompletion (snd mem .wake .wake)).lnk.txVoid = 1 := by decide +kernel

theorem test_ageTickExpiry :
    (after .ageTickExpiry
      (withPeers mem [{ peer 9 0 with age := 2 }, { peer 5 0 with age := 1 }])).stb.order.map
        (fun e => (e.address, e.age)) = [(5, 2)] := by decide +kernel

theorem test_untrackedTimerExpiry :
    (after .untrackedTimerExpiry (mem.setStb { mem.stb with
      untracked := true, untrackedTimer := some 3 })).stb.untracked = false := by decide +kernel

theorem test_supplyTimerExpiry :
    (after (.supplyTimerExpiry .cool) (mem.setCsr { mem.csr with
      capacity := .all { record with state := .fresh, timer := .running 4 } })).txq.intents.supplyLapse =
        true := by decide +kernel

theorem test_stateTimerExpiry :
    (after .stateTimerExpiry (mem.setTxq { mem.txq with stateTimer := some 3 })).txq.intents.state =
      true := by decide +kernel

theorem test_refusalHoldOffExpiry :
    (after (.refusalHoldOffExpiry .heat)
      (mem.setTxq { mem.txq with holdOff := .all (some 3) })).txq.holdOff =
        ⟨some 3, none, some 3⟩ := by decide +kernel

theorem test_spacingExpiry :
    (after (.spacingExpiry .power)
      (mem.setTxq { mem.txq with spacing := .all (some 3) })).txq.spacing =
        ⟨some 3, some 3, none⟩ := by decide +kernel

/-- A state with every timer of the Membership Controller running. -/
def timed (x : Station) : State := (inStation x).setMbr { (inStation x).mbr with
  settleTimer := some 1, censusTimer := some 1, wakeTimer := some 1, sampleTimer := some 1 }

theorem test_settleTimerExpiry :
    (after .settleTimerExpiry (timed .settling)).mbr.station = .joining ∧
      (after .settleTimerExpiry (timed .settling)).txq.intents.join = true := by decide +kernel

theorem test_censusTimerExpiry :
    (after .censusTimerExpiry (timed .joining)).mbr.station = .member := by decide +kernel

theorem test_selfSilenceExpiry :
    (after .selfSilenceExpiry mem).mbr.station = .joining ∧
      (after .selfSilenceExpiry mem).stb.self.map (·.committed) = some (.all 0) := by
  decide +kernel

/-- A member that vetoes the frame it receives, the VETO slot beginning at clock 640. -/
def vetoing (clock : Nat) : State :=
  ((rcv mem).setLnk { (rcv mem).lnk with
    vetoDriven := true, vetoNote := ⟨640, .zero, none⟩
    counters := mem.lnk.counters.bump .vetoesDriven }).setClock clock

theorem test_selfSilenceExpiry_at_the_veto_slot :
    (after .selfSilenceExpiry (vetoing 639)).lnk.vetoDriven = false ∧
      (after .selfSilenceExpiry (vetoing 639)).lnk.counters.vetoesDriven = .zero ∧
      (after .selfSilenceExpiry (vetoing 640)).lnk.vetoDriven = true ∧
      (after .selfSilenceExpiry (vetoing 640)).lnk.counters.vetoesDriven.count = 1 := by
  decide +kernel

/-- A station that left LINK_QUIET at clock 0, within the frame it receives. -/
def late (clock : Nat) : State :=
  ((rcv mem).setLnk { (rcv mem).lnk with drivesFrom := some 0 }).setClock clock

theorem test_voidArrival_around_the_fault_slot :
    (after (.voidArrival 1#3 (bodyOf 0) noSlots) (late 2879)).lnk.rxFault = 0 ∧
      (after (.voidArrival 1#3 (bodyOf 0) noSlots) (late 2880)).lnk.rxFault = 1 := by
  decide +kernel

theorem test_quietTimerExpiry :
    (after .quietTimerExpiry ((inStation .linkQuiet).setLnk
      { mem.lnk with quietTimer := some 4 })).mbr.station = .joining := by decide +kernel

theorem test_wakeTimerExpiry :
    (after .wakeTimerExpiry (timed .parkedDeep)).mbr.lastWake = .timer := by decide +kernel

theorem test_sampleTimerExpiry :
    (after (.sampleTimerExpiry 1399#12) (timed .parkedLight)).mbr.lastWake = .freeze ∧
      (after (.sampleTimerExpiry 1400#12) (timed .parkedLight)).mbr.station = .parkedLight := by
  decide +kernel

theorem test_wakeinActive : (after .wakeinActive (inStation .parkedDeep)).mbr.lastWake = .pin := by
  decide +kernel

theorem test_controlIntervalExpiry :
    (after .controlIntervalExpiry mem).zlp.target = some 220 ∧
      (after .controlIntervalExpiry mem).zlp.demand.heat = 22 ∧
      (after .controlIntervalExpiry mem).zlp.integHeat = 2 := by decide +kernel

/-- A member at its first interval, with a faulted return-air sensor and the door open. -/
def firstInterval : State := mem.setZlp { mem.zlp with
  zone := .faulted, activeMode := none, doorActive := true }

theorem test_fault_enters_before_door_hold :
    (after .controlIntervalExpiry firstInterval).svc.fifo.map (·.kind) =
      [.sensorFault, .doorHold] := by decide +kernel

theorem test_switchTimerExpiry : (after .switchTimerExpiry
    (mem.setZlp { mem.zlp with switchTimer := some 3 })).zlp.switchTimer = none := by decide +kernel

theorem test_boostTimerExpiry : (after .boostTimerExpiry
    (mem.setZlp { mem.zlp with boostTimer := some 3 })).zlp.boostTimer = none := by decide +kernel

theorem test_doorInputChange : (after (.doorInputChange true) mem).zlp.hold = .opened ∧
    (after (.doorInputChange true) mem).zlp.ceiling = ⟨some 0, some 80, some 20⟩ := by
  decide +kernel

theorem test_holdTimerExpiry : (after .holdTimerExpiry (mem.setZlp { mem.zlp with
    hold := .runout, holdTimer := some 3 })).zlp.hold = .none := by decide +kernel

theorem test_frostTimerExpiry : (after .frostTimerExpiry
    (mem.setZlp { mem.zlp with frostTimer := some 3 })).zlp.frostTimer = none := by decide +kernel

theorem test_sensorSample : (after (.sensorSample .returnAir 2060#12) mem).zlp.zone = .valid 215 ∧
    (after (.sensorSample .discharge 4095#12) mem).zlp.discharge = .faulted := by decide +kernel

theorem test_periodEnd :
    (after (.periodEnd .blower) (mem.setDcc { mem.dcc with
      blower := { half with buffered := 700 } })).dcc.blower.active = 700 := by decide +kernel

theorem test_onTimePassed :
    (after (.onTimePassed .heatValve) mem).dcc.heat.on = false := by decide +kernel

theorem test_coolValveRestEnd :
    (after .coolValveRestEnd (mem.setDcc { mem.dcc with
      cool := { half with on := false }, restTimer := some 5
      deferred := true })).dcc.cool.on = true := by decide +kernel

/-- A damper on its way. -/
def moving (h : Homed) (m : Motion) (p : Option Nat) (target : Nat) : State :=
  mem.setDcc { mem.dcc with damper := { mem.dcc.damper with
    homed := h, motion := m, position := p, target := target, stepTimer := some 1 } }

theorem test_stepTimerExpiry :
    (after (.stepTimerExpiry false) (moving .homed .opening (some 40) 41)).dcc.damper.motion =
      .dead ∧
    (after (.stepTimerExpiry true) (moving .homing .closing none 0)).dcc.damper.homed =
      .homed := by decide +kernel

theorem test_no_step_without_a_step_timer :
    after (.stepTimerExpiry true) mem = mem := by decide +kernel

theorem test_deadTimerExpiry :
    (after .deadTimerExpiry (mem.setDcc { mem.dcc with damper := { mem.dcc.damper with
      motion := .dead, deadTimer := some 1, target := 10 } })).dcc.damper.motion = .closing := by
  decide +kernel

theorem test_dmpendActive :
    (after .dmpendActive (moving .homing .closing none 0)).dcc.damper.position = some 0 := by
  decide +kernel

theorem test_tachEdge : (after .tachEdge mem).dcc.fan.window = 1 ∧
    (after .tachEdge mem).dcc.fan.lastEdge = some 0 := by decide +kernel

/-- A watched blower that has stalled `n` times. -/
def watched (n : Nat) : State := mem.setDcc { mem.dcc with fan := { Blower.reset with
  stallCount := n, stallTimer := some 1, goodRunTimer := some 1, lastEdge := some 0 } }

theorem test_stallTimerExpiry : (after .stallTimerExpiry (watched 0)).dcc.fan.condition = .stalled ∧
    (after .stallTimerExpiry (watched 2)).dcc.fan.condition = .fault := by decide +kernel

/-- A stalled blower waiting for its restart. -/
def stalled : State := mem.setDcc { mem.dcc with fan := { Blower.reset with
  condition := .stalled, stallCount := 1, restartTimer := some 1 } }

theorem test_restartTimerExpiry :
    (after .restartTimerExpiry stalled).dcc.fan.condition = .running := by decide +kernel

theorem test_goodRunTimerExpiry :
    (after .goodRunTimerExpiry (watched 2)).dcc.fan.stallCount = 0 := by decide +kernel

/-- The receiver in a state, with a length and a buffer. -/
def hearing (r : RxState) (n : Nat) (buffer : List Byte) : State :=
  mem.setSvc { mem.svc with rx := r, length := n, buffer := buffer, interByte := some 1 }

theorem test_serviceByteReceived :
    (after (.serviceByteReceived 0xA5#8 false) mem).svc.rx = .length ∧
      (after (.serviceByteReceived 248#8 false) (hearing .body 0 [8#8])).svc.answer =
        some ⟨8#8, .ok, .counters .zero⟩ := by decide +kernel

theorem test_interByteTimerExpiry :
    (after .interByteTimerExpiry (hearing .body 3 [1#8])).svc.rx = .hunt ∧
      (after .interByteTimerExpiry (hearing .busy 0 [])).svc.rx = .busy := by decide +kernel

theorem test_answerSent : (after .answerSent (hearing .busy 0 [])).svc.rx = .hunt := by
  decide +kernel

/-- The answer to a message. -/
def answerTo (row : ServiceMessage → Instr) (command : Nat) (payload : List Byte) (s : State) :
    Option (AnswerStatus × AnswerData) :=
  (after (row (msg command payload)) s).svc.answer.map fun a => (a.status, a.data)

theorem test_status :
    answerTo .status 1 [] State.reset = some (.ok, .status State.reset.statusData) := by
  decide +kernel

theorem test_entry : answerTo .entry 2 [0#8] mem = some (.ok, .entry 2 mem.stb.self) ∧
    answerTo .entry 2 [12#8] mem = some (.badValue, .none) := by decide +kernel

theorem test_capacity :
    answerTo .capacity 3 [] mem = some (.ok, .capacity (.all ⟨600, 0, .default⟩)) := by
  decide +kernel

theorem test_setpointRead :
    answerTo .setpointRead 4 [] mem = some (.ok, .setpoint (some ⟨220, .heat, 5, 3⟩)) := by
  decide +kernel

/-- A layout of four bytes to a value, its names coded by their places, a mark before an optional field. -/
def fourBytes : AnswerLayout where
  width := fun _ => 4
  code := fun _ n => n
  present := fun _ => [1#8]
  absent := fun _ => [0#8]
  wide := by intro k; cases k <;> decide
  coded := by
    intro k n h
    exact Nat.lt_of_lt_of_le h (by cases k <;> decide)
  distinct := by intro k m n _ _ h; exact h
  fits := by
    intro d
    have h := fields_length_le
      { width := fun _ => 4, code := fun _ n => n, present := fun _ => [1#8]
        absent := fun _ => [0#8] } 5 d.fields fun f => by
        rw [fieldBytes_length]
        split
        exacts [(by decide : 4 ≤ 5), (by decide : 5 ≤ 5), (by decide : 1 ≤ 5)]
    have := answer_fields_le d
    omega

theorem test_answer_bytes :
    Answer.bytes ⟨4#8, .nak, .none⟩ fourBytes = [0xA5#8, 1#8, 4#8, 1#8, 250#8] ∧
    Answer.bytes ⟨10#8, .ok, .cause .pin 255⟩ fourBytes =
      [0xA5#8, 3#8, 10#8, 0#8, 3#8, 255#8, 241#8] ∧
    Answer.bytes ⟨4#8, .ok, .setpoint (some ⟨300, .auto, 65535, 9⟩)⟩ fourBytes =
      0xA5#8 :: 21#8 :: 4#8 :: 0#8 ::
        ([1#8, 0#8, 0#8, 1#8, 44#8] ++ [1#8, 0#8, 0#8, 0#8, 4#8] ++
         [1#8, 0#8, 0#8, 255#8, 255#8] ++ [1#8, 0#8, 0#8, 0#8, 9#8] ++ [171#8]) ∧
    beBytes 2 (-50) = [255#8, 206#8] := by decide +kernel

theorem test_setpointSet :
    answerTo .setpointSet 5 [0#8, 200#8, 4#8] (inStation .joining) = some (.notMember, .none) ∧
      (after (.setpointSet (msg 5 [0#8, 200#8, 4#8])) mem).txq.intents.setpoint =
        some ⟨200, .auto⟩ := by decide +kernel

theorem test_offsetSet : (after (.offsetSet (msg 6 [226#8])) mem).svc.offset = -30 ∧
    answerTo .offsetSet 6 [225#8] mem = some (.badValue, .none) := by decide +kernel

theorem test_events : answerTo .events 7 [] mem = some (.ok, .events 0 0 []) := by decide +kernel

theorem test_counters : answerTo .counters 8 [] mem = some (.ok, .counters .zero) := by
  decide +kernel

theorem test_clearCounters : (after (.clearCounters (msg 9 [])) (mem.bump .malformed)).lnk.counters =
    .zero := by decide +kernel

theorem test_cause : answerTo .cause 10 [] State.reset = some (.ok, .cause .powerOn 0) ∧
    (after (.cause (msg 10 [])) State.reset).sup.cause = .none := by decide +kernel

theorem test_clearFault :
    (after (.clearFault (msg 11 [])) stalled).dcc.fan.stallCount = 0 := by decide +kernel

theorem test_park : (after (.park (msg 12 [1#8, 5#8, 160#8])) mem).txq.intents.park =
    some ⟨.deep, 1440⟩ := by decide +kernel

theorem test_mask : (after (.mask (msg 13 [1#8, 2#8, 3#8, 4#8])) mem).svc.mask = 0x01020304#32 := by
  decide +kernel

/-! ### Payloads written out from R70 -/

/-- What a body with these payload bytes decodes to. -/
def read (kind : BitVec 3) (urgency : BitVec 2) (payload : List Byte) : Option FrameBody :=
  decodeFrame kind { urgency := urgency, source := 9, payload := payload, check := 0 }

theorem test_small_payloads :
    read 0#3 3#2 [1#8, 5#8, 160#8] = some (.park .deep 1440) ∧
    read 1#3 3#2 [] = some .wake ∧
    read 2#3 3#2 [0x85#8, 1#8, 44#8, 3#8, 255#8] =
      some (.supply true ⟨some 300, none, some 1023⟩) ∧
    read 3#3 0#2 [1#8, 0#8, 200#8] = some (.release .heat 200) ∧
    read 4#3 1#2 [2#8, 0#8, 20#8, 0#8, 8#8, 1#8, 0#8] =
      some (.request .power .recovery 20 8 256) ∧
    read 5#3 3#2 [0#8, 220#8, 4#8, 1#8, 2#8, 9#8] = some (.setpoint 220 .auto 258 9) ∧
    read 7#3 3#2 [7#8] = some (.join 7) := by decide +kernel

theorem test_state_payload :
    read 6#3 3#2 ([0x7F#8, 0x13#8, 0#8, 40#8, 0#8, 0#8, 0#8, 12#8, 0#8, 40#8, 0#8, 0#8, 0#8, 12#8] ++
      [255#8, 0#8, 0#8, 3#8, 255#8, 2#8, 88#8, 2#8, 88#8, 0x06#8, 0x80#8, 0#8, 1#8, 44#8] ++
      [255#8, 255#8, 62#8, 0x7F#8, 255#8, 255#8]) = some (.state content) := by decide +kernel

theorem test_malformed_payloads :
    read 7#3 3#2 [0#8] = none ∧ read 7#3 2#2 [7#8] = none ∧ read 3#3 0#2 [3#8, 0#8, 0#8] = none ∧
    read 5#3 3#2 [0#8, 159#8, 0#8, 0#8, 0#8, 9#8] = none ∧
    read 0#3 3#2 [0#8, 5#8, 161#8] = none := by decide +kernel

theorem test_arbitration_values :
    (Intent.claim .cool (.release 0)).value 1 = 193 ∧
    (Intent.claim .cool (.request .protection)).value 62 = 318 ∧
    (Intent.claim .cool (.request .comfort)).value 1 = 1281 ∧ Intent.join.value 62 = 2046 := by
  decide +kernel

theorem test_stuffing :
    stuff [false, false, false, false, false, true, true] =
      [false, false, false, false, false, true, true, true] ∧
    destuff [false, false, false, false, false, false] = none := by decide +kernel

/-! ### States that meet the premises of each statement -/

/-- Whether a step answers a next state. -/
def runs (s : State) : Bool :=
  match step s with
  | .next _ => true
  | .fault _ => false
  | .refused _ => false

/-- The entry of the own station. -/
def own : Entry :=
  { selfStart img false with
    committed := ⟨0, 80, 20⟩, demand := ⟨some 0, some 80, some 20⟩, mode := some .heat }

/-- An event record. -/
def someEvent : EventRecord :=
  { kind := .joined, time := 0, peer := none, resource := none, value := some 0 }

/-- A member whose event FIFO and lost count are full, with an event to come. -/
def portFull : State :=
  (mem.setSvc { mem.svc with fifo := List.replicate 16 someEvent, lost := 255 }).setPending
    [.setpointSet (msg 5 [0#8, 200#8, 4#8]), .controlIntervalExpiry]

/-- A member whose table is full of pinned peers, the next frame from a peer it has no place for. -/
def tableFull : State :=
  (rcv (withPeers mem ((List.range 11).map fun i =>
    { peer (i + 20) 10 with pinned := true }))).setPending [.requestArrival (request.sent 9) noSlots]

/-- A member one void short of LINK_QUIET. -/
def lastVoid : State :=
  (snd (mem.setLnk { mem.lnk with txVoid := 15, rxFault := 15 }) .wake .wake).setPending [.bitError]

/-- A level with a recovery timer running. -/
def recovering (l : SupplyLevel) : State :=
  mem.setSup { mem.sup with level := l, recovery := some 1 }

theorem witness_FrontCommandRuns :
    (mem.setPending [.vlogFall, .tachEdge]).pending = .vlogFall :: [.tachEdge] := rfl

theorem witness_EmptyQueueStep :
    ((heldBy ⟨true, false, false⟩).pending = [] ∧ (heldBy ⟨true, false, false⟩).held = true) ∧
    (State.reset.pending = [] ∧ State.reset.held = false ∧ State.reset.due = []) ∧
    (State.reset.setClock Config.readTime).pending = [] ∧
    (State.reset.setClock Config.readTime).held = false ∧
    (State.reset.setClock Config.readTime).due ≠ [] := by decide +kernel

theorem witness_EventsStayBounded : portFull.EventsBounded ∧ runs portFull = true := by
  unfold State.EventsBounded; decide +kernel

theorem witness_TableStaysBounded : tableFull.TableBounded ∧ runs tableFull = true := by
  refine ⟨⟨by decide +kernel, by decide +kernel, fun i h => ?_⟩, by decide +kernel⟩
  obtain rfl := Option.some.inj h
  unfold Image.PinnedOk
  decide +kernel

theorem mem_ReadingBlank : mem.ReadingBlank := fun h => absurd h (by decide)

theorem witness_StaysConfined : lastVoid.Confined ∧ runs lastVoid = true :=
  ⟨⟨fun h => absurd h (by decide), (by decide +kernel : _ ∧ _ ∧ _)⟩, by decide +kernel⟩

theorem witness_DutiesStayBounded :
    (mem.setPending [.periodEnd .blower]).DutiesBounded ∧
      runs (mem.setPending [.periodEnd .blower]) = true :=
  ⟨⟨mem_ReadingBlank, fun ch => by
      cases ch <;> unfold Channel.WithinCap Channel.Quiet <;> decide +kernel⟩, by decide +kernel⟩

theorem witness_HeldPartStaysQuiet :
    ((heldBy ⟨true, true, true⟩).setPending [.vlogRise]).held = true ∧
      ((heldBy ⟨true, true, true⟩).setPending [.vlogRise]).QuietWhileHeld ∧
      runs ((heldBy ⟨true, true, true⟩).setPending [.vlogRise]) = true := by
  unfold State.QuietWhileHeld; decide +kernel

theorem mem_OverdrawAgrees : mem.OverdrawAgrees := fun r => by cases r <;> decide +kernel

theorem witness_OverdrawStaysTrue :
    (mem.setPending [.controlIntervalExpiry]).TableBounded ∧
      (mem.setPending [.controlIntervalExpiry]).OverdrawTrue ∧
      runs (mem.setPending [.controlIntervalExpiry]) = true := by
  refine ⟨⟨by decide +kernel, by decide +kernel, fun i h => ?_⟩,
    ⟨mem_ReadingBlank, mem_OverdrawAgrees, fun h => absurd h (by decide)⟩, by decide +kernel⟩
  obtain rfl := Option.some.inj h
  unfold Image.PinnedOk
  decide +kernel

theorem witness_CapsStayWithinDraw :
    (mem.setPending [.controlIntervalExpiry]).CapsWithinDraw ∧
      runs (mem.setPending [.controlIntervalExpiry]) = true := by
  refine ⟨⟨mem_ReadingBlank, fun h => absurd h (by decide), fun i e h h' => ?_⟩,
    by decide +kernel⟩
  obtain rfl := Option.some.inj h
  obtain rfl := Option.some.inj h'
  decide +kernel

theorem witness_PartIsHeld :
    mem.held = false ∧ (169 : Nat) < 170 ∧
    (returned.held = true ∧ returned.raised = [] ∧ returned.sup.standing.pin = false ∧
      returned.sup.standing.vlog = false) ∧
    ((heldBy ⟨true, true, false⟩).held = true ∧ (heldBy ⟨true, true, false⟩).raised = [] ∧
      (heldBy ⟨true, true, false⟩).sup.standing.vlog = true ∧
      (heldBy ⟨true, true, false⟩).sup.standing.pin = true) ∧
    ((after .resetnLow returned).held = true ∧ (after .resetnLow returned).raised = [] ∧
      (after .resetnLow returned).sup.standing.pin = true ∧
      (after .resetnLow returned).sup.awaiting = true) ∧
    (heldBy ⟨false, true, true⟩).held = true ∧ (heldBy ⟨false, true, true⟩).raised = [] ∧
      (heldBy ⟨false, true, true⟩).sup.standing.pin = true ∧
      (heldBy ⟨false, true, true⟩).sup.standing.cut = true ∧
      (heldBy ⟨false, true, true⟩).sup.standing.vlog = false ∧
      (170 : Nat) ≤ 170 ∧ (170 : Nat) ≤ 184 ∧ (184 : Nat) < 185 ∧ (185 : Nat) ≤ 185 ∧
    Instr.tachEdge ≠ .vlogFall ∧ (∀ v, Instr.tachEdge ≠ .supplySample v) ∧
      ∀ a, Instr.tachEdge ≠ .doorInputChange a := by
  and_intros <;> first | decide +kernel | exact fun _ => Instr.noConfusion

theorem witness_RestartIsReleased :
    (heldBy ⟨true, false, false⟩).raised = [] ∧
    (heldBy ⟨true, false, false⟩).sup.standing = ⟨true, false, false⟩ ∧ (170 : Nat) ≤ 170 ∧
    returned.raised = [] ∧ returned.sup.standing = ⟨false, false, false⟩ ∧
    returned.sup.awaiting = true ∧
    (heldBy ⟨false, true, false⟩).raised = [] ∧
    (heldBy ⟨false, true, false⟩).sup.standing = ⟨false, true, false⟩ ∧
    (heldBy ⟨false, true, false⟩).sup.awaiting = false ∧
    (heldBy ⟨false, false, true⟩).raised = [] ∧
    (heldBy ⟨false, false, true⟩).sup.standing = ⟨false, false, true⟩ ∧ (185 : Nat) ≤ 185 := by
  decide +kernel

theorem witness_SamplesAndRecoveryMoveLevel :
    (mem.Ready ∧ mem.sup.level = .normal ∧ (210 : Nat) ≤ 210 ∧ (170 : Nat) ≤ 209 ∧
      (209 : Nat) < 210) ∧
    ((recovering .warn).Ready ∧ (recovering .warn).sup.level = .warn ∧ (170 : Nat) ≤ 170 ∧
      (224 : Nat) < 225 ∧ (225 : Nat) ≤ 225 ∧ (recovering .warn).sup.recovery.isSome = true) ∧
    ((recovering .normal).Ready ∧ (recovering .normal).sup.level ≠ .warn ∧
      (recovering .normal).sup.recovery.isSome = true) ∧
    mem.OverdrawAgrees ∧ (recovering .warn).OverdrawAgrees ∧
    mem.cfg.image = some img ∧ mem.stb.self = some own ∧ mem.isMember = true ∧
    own.floorOr0 .power < own.committed.power ∧ mem.txq.onWire ≠ some (.claim .power) := by
  refine ⟨?_, ?_, ?_, mem_OverdrawAgrees, mem_OverdrawAgrees, ?_⟩ <;>
    first | decide +kernel | (unfold State.Ready; decide +kernel)

theorem witness_ReadEndsInFault :
    mem.cfg.phase = .none ∧ State.reset.Ready ∧ State.reset.cfg.phase = .readyPoll ∧ (0xFE#8).getLsbD 0 = false ∧
    (1#8).getLsbD 0 = true ∧ State.reset.cfg.readTimer.isSome = true ∧
    (reading .transfer).Ready ∧ (reading .transfer).cfg.phase = .transfer ∧
    (block 1 3 0 5178).length = 64 ∧ blockCheckGood (block 1 3 0 5178) = false ∧
    blockCheckGood (block 2 3 0 39007) = true ∧
    (byteAt (block 2 3 0 39007) 0).toNat ≠ 1 ∧
    (blockCheckGood (block 1 63 0 50134) = true ∧
      (byteAt (block 1 63 0 50134) 0).toNat = 1 ∧
      firstBadField (block 1 63 0 50134) = some 1) ∧
    blockCheckGood (block 1 3 1 1050) = true ∧
    firstBadField (block 1 3 1 1050) = some 55 := by
  unfold State.Ready; decide +kernel

theorem witness_GoodBlockIsHandedOn :
    (reading .transfer).Ready ∧ (reading .transfer).cfg.phase = .transfer ∧
    (block 1 3 0 5179).length = 64 ∧ blockCheckGood (block 1 3 0 5179) = true ∧
    (byteAt (block 1 3 0 5179) 0).toNat = 1 ∧ firstBadField (block 1 3 0 5179) = none ∧
    (reading .transfer).lnk.state = .off := by
  unfold State.Ready; decide +kernel

theorem witness_FramesReadBack :
    (FrameBody.park .deep 1440).InRange 1 ∧ FrameBody.wake.InRange 62 ∧
    (FrameBody.supply true ⟨some 1023, none, none⟩).InRange 62 ∧
    (FrameBody.release .power 1023).InRange 1 ∧
    (FrameBody.request .cool .protection 0 1023 1023).InRange 62 ∧
    (FrameBody.setpoint 160 .off 65535 62).InRange 62 ∧
    (FrameBody.setpoint 300 .auto 0 1).InRange 1 ∧ (FrameBody.state content).InRange 1 ∧
    (FrameBody.join 1).InRange 1 ∧ (FrameBody.join 15).InRange 62 := by
  refine ⟨?_, trivial, ⟨⟨.cool, by decide⟩, fun r v h => ?_⟩, ?_, ?_, ?_, ?_,
    ⟨by decide, by decide, fun r => by cases r <;> decide, fun z h => ?_, by decide, by decide,
      by decide, by decide, by decide, fun o h => ?_⟩, ?_, ?_⟩
  case refine_2 => cases r <;> simp_all [Per.get]
  case refine_7 => obtain rfl := Option.some.inj h; decide
  case refine_8 => obtain rfl := Option.some.inj h; decide
  all_goals unfold FrameBody.InRange; decide

/-- A member whose link is in a state. -/
def linked (x : LinkState) : State := mem.setLnk { mem.lnk with state := x }

theorem witness_LinkFollowsTheLine :
    (∀ x, (linked x).Ready) ∧ (linked .seekingIdle).lnk.state = .seekingIdle ∧
    (linked .flag).lnk.state = .flag ∧ mem.lnk.state = .idle ∧
    (linked .transmitting).lnk.state = .transmitting ∧
    (linked .receiving).lnk.state = .receiving :=
  ⟨fun x => by cases x <;> exact ⟨rfl, rfl⟩, rfl, rfl, rfl, rfl, rfl⟩

theorem witness_LowestIntentIsOffered :
    mem.txq.intents.offered 3 = none ∧
    (((mem.ask .state).ask .join).ask (.claim .heat (.release 0))).txq.intents.offered 3 =
      some (.claim .heat (.release 0)) := by decide +kernel

theorem witness_FramesFormed :
    mem.stb.self = some own ∧ mem.csr.setpoint = some ⟨220, .heat, 5, 3⟩ ∧
      mem.cfg.image = some img := by decide +kernel

/-- A member whose RELEASE of HEAT has nothing left to lower and holds its target, a WAKE behind it. -/
def stale : State :=
  ((mem.setCjg { mem.cjg with releaseTarget := ⟨none, some 80, none⟩ }).ask
    (.claim .heat (.release 80))).ask .wake

theorem witness_TransmissionStarts :
    (mem.Ready ∧ mem.lnk.state = .idle ∧ mem.mbr.station.drives = true) ∧
    mem.txq.intents.offered mem.ownAddress = none ∧
    ((mem.ask .wake).txq.intents.offered 3 = some .wake ∧
      (mem.ask .wake).form .wake = some .wake) ∧
    (mem.ask (.claim .cool (.request .comfort))).txq.intents.offered 3 =
      some (.claim .cool (.request .comfort)) ∧
    (mem.ask (.claim .cool (.request .comfort))).form (.claim .cool (.request .comfort)) = none ∧
    ((mem.ask (.claim .cool (.request .comfort))).txq.intents.clear (.claim .cool)).offered 3 =
      none ∧
    (stale.Ready ∧ stale.lnk.state = .idle ∧ stale.mbr.station.drives = true ∧
      stale.stb.self = some own ∧
      stale.txq.intents.offered 3 = some (.claim .heat (.release 80)) ∧
      stale.form (.claim .heat (.release 80)) = none) ∧
    (∀ u, stale.WithoutIntent u (.claim .heat (.release 80)) →
      u.txq.intents.offered u.ownAddress = some .wake ∧ u.form .wake = some .wake ∧
        u.cjg.releaseTarget.heat = none) ∧
    (after .transmissionStart stale).lnk.wire = some .wake := by
  and_intros
  all_goals first
    | decide +kernel
    | (rintro _ rfl; decide +kernel)

/-- Two short of the confinement limit, in a station state. -/
def near (x : Station) : State :=
  (inStation x).setLnk { mem.lnk with txVoid := 14, rxFault := 14 }

theorem witness_FailuresCount :
    ((snd (near .member) .wake .wake).Sends .wake ∧
      (near .member).mbr.station.drives = true ∧ (near .member).lnk.txVoid + 1 < 16) ∧
    ((snd (near .linkQuiet) .wake .wake).Sends .wake ∧
      (near .linkQuiet).mbr.station = .linkQuiet) ∧
    ((rcv (near .member)).Ready ∧ (rcv (near .member)).lnk.state = .receiving ∧
      (rcv (near .member)).lnk.rxFault + 1 < 16 ∧ checkGood 1#3 (bodyOf 0) = false) := by
  unfold State.Sends State.Ready; decide +kernel

theorem witness_FailuresCount_late :
    (∀ x ∈ [late 2879, late 2880], x.Ready ∧ x.lnk.state = .receiving ∧
      x.mbr.station.drives = true ∧ x.lnk.rxFault + 1 < 16 ∧ x.lnk.drivesFrom = some 0) ∧
    (late 2879).clock < 0 + Config.bitPeriods 9 ∧ 0 + Config.bitPeriods 9 ≤ (late 2880).clock := by
  unfold State.Ready; decide +kernel

theorem witness_SixteenthEntersLinkQuiet :
    (lastVoid.Ready ∧ lastVoid.mbr.station.drives = true ∧
      lastVoid.lnk.state = .transmitting ∧ lastVoid.lnk.wire.isSome = true ∧
      lastVoid.lnk.txVoid = 15) ∧
    ((rcv lastVoid).Ready ∧ (rcv lastVoid).lnk.state = .receiving ∧
      (rcv lastVoid).lnk.rxFault = 15 ∧
      ((rcv lastVoid).slotsDriven 1#3 (bodyOf 0)).fault = true) ∧
    lastVoid.Calm := by
  refine ⟨?_, ?_, ?_, mem_OverdrawAgrees, ?_⟩ <;>
    first | decide +kernel | (unfold State.Ready; decide +kernel)

theorem witness_UnusedArrivalsAreCounted :
    ((rcv mem).Ready ∧ (rcv mem).lnk.state = .receiving ∧
      (rcv mem).mbr.station.counts = true) ∧
    (checkGood 7#3 ((FrameBody.join 0).sent 9) = true ∧
      decodeFrame 7#3 ((FrameBody.join 0).sent 9) = none ∧
      ((FrameBody.join 0).sent 9).source.toNat ≠ (rcv mem).ownAddress) ∧
    checkGood 1#3 (FrameBody.wake.sent 9) = true ∧
    decodeFrame 1#3 (FrameBody.wake.sent 9) ≠ none := by
  unfold State.Ready; decide +kernel

theorem witness_AddressClashIsolates :
    ((rcv mem).Ready ∧ (rcv mem).lnk.state = .receiving ∧
      (rcv mem).mbr.station.counts = true ∧ (rcv mem).cfg.image = some img ∧
      checkGood 1#3 (FrameBody.wake.sent 3) = true ∧
      (FrameBody.wake.sent 3).source.toNat = img.address ∧
      decodeFrame 1#3 (FrameBody.wake.sent 3) ≠ none) ∧ (rcv mem).Calm := by
  refine ⟨?_, ?_, mem_OverdrawAgrees, ?_⟩ <;>
    first | decide +kernel | (unfold State.Ready; decide +kernel)

theorem witness_EvictionTakesTheTail :
    evictFrom [{ peer 5 0 with pinned := true }, peer 9 1] = none ∧
    evictFrom [peer 4 0, peer 5 0, peer 9 1] = some [peer 4 0, peer 9 1] := by decide +kernel

/-- Peer 9 draws 10 of COOL and peer 8 is short of it or not. -/
def two (short : Nat) : State := withPeers mem [peer 9 10, { peer 8 0 with demand := .all (some short) }]

/-- A table without a place, every entry holding draw. -/
def crowded : State := withPeers mem ((List.range 11).map fun i => peer (i + 20) 1)

theorem witness_SixTestsInOrder :
    (crowded.judge ⟨9, .cool, .comfort, 0, 1⟩ = some 2 ∧
      crowded.judge ⟨20, .cool, .comfort, 1, 1⟩ = none ∧
      mem.judge ⟨7, .cool, .comfort, 5, 520⟩ = none ∧
      mem.judge ⟨7, .cool, .comfort, 5, 521⟩ = some 5 ∧
      mem.judge ⟨9, .cool, .recovery, 525, 0⟩ = none ∧
      mem.judge ⟨9, .cool, .recovery, 525, 1⟩ = some 5 ∧
      mem.judge ⟨3, .power, .comfort, 20, 8⟩ = none ∧
      mem.judge ⟨3, .power, .comfort, 21, 8⟩ = some 3) ∧
    ((two 0).setStb { (two 0).stb with untracked := true }).judge ⟨9, .cool, .comfort, 10, 1⟩ =
      some 1 ∧
    (two 0).judge ⟨9, .cool, .comfort, 11, 1⟩ = some 3 ∧
    ((two 0).setCjg { (two 0).cjg with overdraw := .all true }).judge
      ⟨9, .cool, .comfort, 10, 1⟩ = some 4 ∧
    (two 0).judge ⟨9, .cool, .comfort, 10, 516⟩ = some 5 ∧
    (two 0).judge ⟨9, .cool, .comfort, 10, 515⟩ = none ∧
    (two 0).judge ⟨9, .cool, .protection, 10, 590⟩ = none ∧
    (two 1).judge ⟨9, .cool, .comfort, 10, 141⟩ = some 6 ∧
    (two 1).judge ⟨9, .cool, .comfort, 10, 140⟩ = none := by decide +kernel

/-- The same with every peer untracked. -/
def lost (s : State) : State := s.setStb { s.stb with untracked := true }

theorem witness_RequestIsJudged :
    ((rcv mem).Ready ∧ (rcv mem).mbr.station = .member ∧ (rcv mem).lnk.state = .receiving ∧
      checkGood 4#3 (request.sent 9) = true ∧ decodeFrame 4#3 (request.sent 9) = some request) ∧
    (rcv mem).judge ⟨9, .cool, .comfort, 0, 50⟩ = none ∧
    (lost (rcv mem)).judge ⟨9, .cool, .comfort, 0, 50⟩ = some 1 ∧
    (snd mem (.claim .power) ownRequest).Ready ∧
    (snd mem (.claim .power) ownRequest).lnk.wire = some ownRequest ∧
    (snd mem (.claim .power) ownRequest).judge ⟨3, .power, .comfort, 20, 8⟩ = none ∧
    (lost (snd mem (.claim .power) ownRequest)).judge ⟨3, .power, .comfort, 20, 8⟩ = some 1 := by
  unfold State.Ready; decide +kernel

theorem witness_ClaimsArrive :
    (rcv mem).Hears 4#3 (request.sent 9) { noSlots with veto := true } request ∧
    tableFull.Hears 4#3 ((FrameBody.request .heat .protection 0 1023 1023).sent 62) noSlots
      (.request .heat .protection 0 1023 1023) ∧
    (rcv mem).Hears 3#3 ((FrameBody.release .power 1023).sent 7) noSlots
      (.release .power 1023) := by
  unfold State.Hears State.Ready; decide +kernel

theorem witness_StateArrives :
    (rcv (inStation .joining)).Hears 6#3 ((FrameBody.state content).sent 9) noSlots
      (.state content) ∧
    (rcv (inStation .joining)).csr.setpoint = some ⟨220, .heat, 5, 3⟩ := by
  unfold State.Hears State.Ready; decide +kernel

theorem witness_JoinArrives :
    (rcv mem).Hears 7#3 ((FrameBody.join 15).sent 1) noSlots (.join 15) ∧
    (rcv mem).isMember = true ∧ (rcv mem).txq.onWire ≠ some .state := by
  unfold State.Hears State.Ready; decide +kernel

theorem witness_SupplyArrives :
    (rcv mem).Hears 2#3 ((FrameBody.supply true ⟨none, some 1023, none⟩).sent 9) noSlots
      (.supply true ⟨none, some 1023, none⟩) := by
  unfold State.Hears State.Ready; decide +kernel

/-- A SETPOINT of station 9 with an epoch. -/
def setpointOf (epoch : Nat) : FrameBody := .setpoint 300 .off epoch 9

theorem witness_SetpointAndWakeArrive :
    (rcv mem).csr.setpoint = some ⟨220, .heat, 5, 3⟩ ∧
    (rcv mem).Hears 5#3 ((setpointOf 32772).sent 9) noSlots (setpointOf 32772) ∧
    newerEpoch 32772 5 = true ∧
    (rcv mem).Hears 5#3 ((setpointOf 5).sent 9) noSlots (setpointOf 5) ∧
    (rcv mem).Hears 5#3 ((setpointOf 32773).sent 9) noSlots (setpointOf 32773) ∧
    newerEpoch 32773 5 = false ∧
    (rcv mem).Hears 1#3 (FrameBody.wake.sent 9) noSlots .wake := by
  unfold State.Hears State.Ready; decide +kernel

/-- A claim intent held for POWER. -/
def holding (i : ClaimIntent) : Intents := (mem.ask (.claim .power i)).txq.intents

theorem witness_AskedIntentsCombine :
    (snd mem .wake .wake).txq.onWire = some (Intent.key .wake) ∧
    mem.txq.onWire ≠ some (Intent.key .wake) ∧ mem.txq.intents.claim.get .cool = none ∧
    (holding (.request .recovery)).claim.get .power = some (.request .recovery) ∧
    (holding (.release 7)).claim.get .power = some (.release 7) ∧
    Key.join ≠ Intent.key .wake := by decide +kernel

/-- A queue with the REQUEST of POWER on the wire and a replacement for its key, if any. -/
def replacing (i : Option ClaimIntent) : TransmitQueue :=
  let q := (snd mem (.claim .power) ownRequest).txq
  match i with
  | none => q
  | some c => q.ask (.claim .power c)

theorem witness_ReplacementsTakeEffect :
    (replacing none).onWire = some (.claim .power) ∧
    (replacing none).replacements.get (.claim .power) = none ∧
    (replacing (some (.request .comfort))).onWire = some (.claim .power) ∧
    (replacing (some (.request .comfort))).replacements.get (.claim .power) =
      some (.claim .power (.request .comfort)) ∧
    (replacing (some (.release 0))).replacements.get (.claim .power) =
      some (.claim .power (.release 0)) ∧ Key.wake ≠ .claim .power := by decide +kernel

theorem witness_OwnRequestCompletes :
    ((snd mem (.claim .power) ownRequest).Sends (.request .power .comfort 20 8 28) ∧
      (snd mem (.claim .power) ownRequest).mbr.station = .member ∧
      (snd mem (.claim .power) ownRequest).stb.self = some own) ∧
    (snd mem (.claim .power) ownRequest).OverdrawAgrees := by
  refine ⟨?_, mem_OverdrawAgrees⟩
  unfold State.Sends State.Ready; decide +kernel

theorem witness_OwnReleaseCompletes :
    ((snd mem (.claim .heat) (.release .heat 80)).Sends (.release .heat 80) ∧
      (snd mem (.claim .heat) (.release .heat 80)).mbr.station = .member ∧
      (snd mem (.claim .heat) (.release .heat 80)).stb.self = some own ∧
      80 ≤ own.committed.get .heat) ∧
    (snd mem (.claim .heat) (.release .heat 80)).OverdrawAgrees := by
  refine ⟨?_, mem_OverdrawAgrees⟩
  unfold State.Sends State.Ready; decide +kernel

theorem witness_OtherOwnFramesComplete :
    ((snd mem .supplyLapse (.supply true ⟨none, some 600, none⟩)).Sends
        (.supply true ⟨none, some 600, none⟩) ∧ mem.mbr.station = .member) ∧
    ((snd mem .setpoint (.setpoint 160 .off 6 3)).Sends (.setpoint 160 .off 6 3) ∧
      mem.csr.setpoint = some ⟨220, .heat, 5, 3⟩ ∧ newerEpoch 6 5 = true) ∧
    ((snd (inStation .joining) .join (.join 2)).Sends (.join 2) ∧
      (inStation .joining).mbr.station = .joining ∧
      (snd (inStation .joining) .join (.join 2)).txq.onWire = some .join) ∧
    ((snd mem .state (.state content)).Sends (.state content) ∧
      (snd mem .state (.state content)).txq.onWire = some .state) ∧
    (snd mem .wake .wake).Sends .wake := by
  unfold State.Sends State.Ready; decide +kernel

/-- A member sending a SUPPLY for HEAT. -/
def supplying (v : Nat) : State := snd mem .supplyLapse (.supply true ⟨none, some v, none⟩)

theorem witness_OtherOwnFramesComplete_flags :
    (∀ x ∈ [supplying 80, supplying 79], x.mbr.station = .member ∧ x.cjg.overdraw = .all false) ∧
    (after (.ownSupplyCompletion true) (supplying 80)).cjg.overdraw = .all false ∧
    (after (.ownSupplyCompletion true) (supplying 79)).cjg.overdraw.heat = true := by
  decide +kernel

/-- Peer 9 without draws, of an age. -/
def aged (n : Nat) : Entry := { peer 9 0 with age := n }

theorem witness_AgeTickAges :
    (aged 2).present = true ∧ (2 : Nat) ≤ (aged 2).age ∧ (aged 2).pinned = false ∧
    ({ aged 2 with pinned := true } : Entry).pinned = true ∧ (aged 1).age < 2 ∧
    (mem.Ready ∧ mem.stb.ageTimer.isSome = true ∧ mem.cjg.overdraw = .all false ∧
      mem.mbr.station.counts = true) ∧
    (withPeers mem [aged 1]).stb.order.filter Entry.lapses = [] ∧
    (withPeers mem [aged 2]).stb.order.filter Entry.lapses = [aged 2] ∧
    (withPeers mem [aged 1]).OverdrawAgrees ∧ (withPeers mem [aged 2]).OverdrawAgrees := by
  refine ⟨by decide, by decide, by decide, by decide, by decide, ?_, by decide +kernel,
    by decide +kernel, fun r => by cases r <;> decide +kernel,
    fun r => by cases r <;> decide +kernel⟩
  unfold State.Ready; decide +kernel

/-- A member with a supply timer and the STATE timer running, and untracked. -/
def recordTimed : State :=
  ((lost mem).setStb { mem.stb with untracked := true, untrackedTimer := some 1 }).setTxq
    { mem.txq with stateTimer := some 1 }

theorem witness_RecordTimersExpire :
    recordTimed.Ready ∧ recordTimed.stb.untrackedTimer.isSome = true ∧
    ((recordTimed.setCsr { mem.csr with capacity := .all { record with
        state := .fresh, timer := .running 4 } }).csr.capacity.get .heat).timer = .running 4 ∧
    recordTimed.txq.stateTimer.isSome = true ∧ recordTimed.txq.onWire ≠ some .state := by
  unfold State.Ready; decide +kernel

theorem witness_StationJoinsAndIsMember :
    ((timed .settling).Ready ∧ (timed .settling).mbr.station = .settling ∧
      (timed .settling).mbr.settleTimer.isSome = true) ∧
    (((inStation .linkQuiet).setLnk { mem.lnk with quietTimer := some 4 }).Ready ∧
      (inStation .linkQuiet).mbr.station = .linkQuiet) ∧
    (timed .joining).Ready ∧ (timed .joining).mbr.station = .joining ∧
    (timed .joining).mbr.censusTimer.isSome = true := by
  unfold State.Ready; decide +kernel

theorem witness_SilentMemberLapses :
    (mem.Ready ∧ mem.mbr.selfSilence = .running 9 ∧ mem.mbr.station = .member) ∧
    (∀ x ∈ [vetoing 639, vetoing 640], x.Ready ∧ x.mbr.selfSilence = .running 9 ∧
      x.mbr.station = .member ∧ x.lnk.vetoDriven = true) ∧
    ((inStation .joining).Ready ∧ (inStation .joining).mbr.selfSilence = .running 9 ∧
      (inStation .joining).mbr.station = .joining) ∧ mem.Calm := by
  refine ⟨?_, ?_, ?_, ?_, mem_OverdrawAgrees, ?_⟩ <;>
    first | decide +kernel | (unfold State.Ready; decide +kernel)

theorem witness_ParkIsTaken :
    ((rcv mem).cfg.image = some img ∧
      (rcv mem).Hears 0#3 ((FrameBody.park .deep 1440).sent 9) noSlots (.park .deep 1440) ∧
      (rcv mem).Hears 0#3 ((FrameBody.park .light 0).sent 9) noSlots (.park .light 0)) ∧
    ((snd mem .park (.park .deep 1)).cfg.image = some img ∧
      (snd mem .park (.park .deep 1)).Sends (.park .deep 1) ∧
      (snd mem .park (.park .deep 1)).mbr.station = .member) ∧ mem.Calm := by
  refine ⟨?_, ?_, ?_, mem_OverdrawAgrees, ?_⟩ <;>
    first
      | decide +kernel
      | (unfold State.Hears State.Ready; decide +kernel)
      | (unfold State.Sends State.Ready; decide +kernel)

theorem witness_ParkedStationWakes :
    ((timed .parkedDeep).Ready ∧ (timed .parkedDeep).mbr.station.parked = true ∧
      (timed .parkedDeep).mbr.wakeTimer.isSome = true) ∧
    ((rcv (timed .parkedLight)).Ready ∧ (rcv (timed .parkedLight)).mbr.station = .parkedLight ∧
      (rcv (timed .parkedLight)).lnk.state = .receiving ∧
      checkGood 1#3 (FrameBody.wake.sent 9) = true ∧
      decodeFrame 1#3 (FrameBody.wake.sent 9) = some .wake) ∧
    ((timed .parkedLight).mbr.sampleTimer.isSome = true ∧
      (timed .parkedLight).cfg.image = some img) ∧
    convert img.returnCal 1399#12 = .valid 49 ∧ convert img.returnCal 1400#12 = .valid 50 ∧
    convert img.returnCal 4095#12 = .faulted := by
  unfold State.Ready; decide +kernel

theorem witness_CountsAreConverted :
    (1#12).toNat ≠ 0 ∧ (1#12).toNat ≠ 4095 ∧ (4094#12).toNat ≠ 0 ∧ (4094#12).toNat ≠ 4095 ∧
    mem.Ready ∧ mem.cfg.image = some img ∧ mem.mbr.station.converts = true := by
  unfold State.Ready; decide +kernel

/-- A Zone Loop in AUTO with an error and a sub-mode, its switch timer stopped. -/
def auto (error : Int) (sub : SubMode) : ZoneLoop :=
  { mem.zlp with zone := .valid (220 - error), subMode := sub, switchTimer := none }

theorem witness_LoopStaysWithinRating :
    ({ mem.zlp with integHeat := 160 }).integrator .heat ≤ img.rating .heat ∧
    ({ mem.zlp with integCool := 200 }).integrator .cool ≤ img.rating .cool ∧
    ({ mem.zlp with interlock := true }).holdsIntegrator .heat = true ∧
    (-5 : Int) ≤ -5 ∧ (-5 : Int) ≤ 5 ∧ (5 : Int) ≤ 5 ∧
    mem.zlp.holdsIntegrator .heat = false ∧
    (mem.zlp.activeMode = some .heat ∧ mem.zlp.error = some 10) ∧
    ({ mem.zlp with zone := .faulted } : ZoneLoop).error = none ∧
    ({ mem.zlp with activeMode := none } : ZoneLoop).activeMode ≠ some .heat ∧
    mem.zlp.subMode = .none ∧ mem.stb.self = some own ∧
    (auto 60 .heat).subMode ≠ .none ∧ (auto 60 .heat).switchTimer = none ∧
    ({ auto 60 .heat with switchTimer := some 1 } : ZoneLoop).switchTimer.isSome = true ∧
    ((auto (-10) .heat).autoMode .auto none).subMode = .heat ∧
    ((auto (-11) .heat).autoMode .auto none).subMode = .cool ∧
    ((auto 10 .cool).autoMode .auto none).subMode = .cool ∧
    ((auto 11 .cool).autoMode .auto none).subMode = .heat ∧
    (mem.stageMode ⟨220, .cool, 5, 3⟩ own).zlp.block = some .cool ∧
    (mem.stageMode ⟨220, .cool, 5, 3⟩ own).txq.intents.claim.heat = some (.release 0) ∧
    (mem.stageMode ⟨220, .heat, 5, 3⟩ own).zlp.activeMode = some .heat := by decide +kernel

/-- A member freshly woken by a freeze, its zone just below 8 °C. -/
def frozen : State :=
  (mem.setMbr { mem.mbr with freezeWake := true }).setZlp { mem.zlp with zone := .valid 79 }

/-- A member that has heard an outdoor reading of an age from a peer. -/
def seen (age : Nat) : State := withPeers mem [{ peer 9 0 with outdoor := some ⟨100, age⟩ }]

theorem witness_IntervalRuns :
    (mem.Ready ∧ mem.mbr.station = .member ∧ mem.zlp.controlTimer.isSome = true ∧
      mem.cfg.image = some img ∧ mem.csr.setpoint = some ⟨220, .heat, 5, 3⟩ ∧
      mem.stb.self = some own ∧ mem.mbr.freezeWake = false) ∧
    (frozen.Ready ∧ frozen.mbr.freezeWake = true ∧ frozen.zlp.zone = .valid 79) ∧
    ((mem.stb.self.bind (·.outdoor)) = none ∧ peerOutdoor mem.stb.order = none) ∧
    (seen 60).stb.usableOutdoor = some 100 ∧ (seen 61).stb.usableOutdoor = none ∧
    ((seen 61).setStb { mem.stb with self := some { own with outdoor := some ⟨90, 61⟩ } }).stb.usableOutdoor =
      some 90 := by
  unfold State.Ready; decide +kernel

/-- The own entry with a demand and a draw of HEAT. -/
def wants (demand committed : Nat) : Entry :=
  { own with demand := ⟨some 0, some demand, some 0⟩, committed := ⟨0, committed, 0⟩ }

/-- A member with that entry. -/
def wanting (demand committed : Nat) : State :=
  mem.setStb { mem.stb with self := some (wants demand committed) }

/-- A member that holds a release target of HEAT. -/
def targeted (target : Nat) : State :=
  mem.setCjg { mem.cjg with releaseTarget := ⟨none, some target, none⟩ }

/-- A member alone in an overdraw of HEAT. -/
def short (capacity : Nat) : State :=
  (mem.setCsr { mem.csr with capacity := .all { record with value := capacity } }).setCjg
    { mem.cjg with overdraw := .all true }

/-- A member above its share of HEAT, with a peer that waits for some. -/
def greedy : State :=
  (withPeers mem [{ peer 9 0 with demand := ⟨some 0, some 30, some 0⟩ }]).setCsr
    { mem.csr with capacity := .all { record with value := 90 } }

theorem witness_ClaimIsDecided :
    ((wanting 20 29).stb.self = some (wants 20 29) ∧
      (wants 20 29).demandOr .heat + 8 < (wants 20 29).committed.get .heat) ∧
    ((wants 21 20).committed.get .heat < (wants 21 20).demandOr .heat ∧
      (wanting 21 20).zlp.block ≠ some .heat ∧
      (wanting 21 20).cjg.releaseTarget.get .heat = none ∧
      (wanting 21 20).txq.holdOff.get .heat = none ∧
      (wanting 21 20).txq.spacing.get .heat = none ∧
      (wanting 21 20).txq.intents.claim.get .heat = none ∧
      (wanting 21 20).txq.replacements.claim.get .heat = none) ∧
    ((wants 20 28).committed.get .heat ≤ (wants 20 28).demandOr .heat + 8 ∧
      (wants 20 28).demandOr .heat ≤ (wants 20 28).committed.get .heat) ∧
    (holding (.release 0)).claim.get .power = some (.release 0) ∧
    (mem.cjg.releaseTarget.get .heat = none ∧
      (targeted 60).cjg.releaseTarget.get .heat = some 60 ∧ (60 : Nat) ≤ 60 ∧ (59 : Nat) < 60) ∧
    ((short 50).cjg.overdraw.get .heat = true ∧ (short 50).stb.self = some own ∧
      ((short 50).cutAgain .heat).cjg.releaseTarget.heat = some 50) ∧
    (mem.cjg.overdraw.get .heat = false ∧ (mem.computeCut .cool) = mem) ∧
    ((greedy.yieldShare .heat).cjg.releaseTarget.heat = some 72 ∧
      mem.yieldShare .heat = mem) := by decide +kernel

/-- A member with its door input at a level and a door hold. -/
def door (active : Bool) (hold : DoorHold) : State :=
  mem.setZlp { mem.zlp with doorActive := active, hold := hold, holdTimer := some 1 }

theorem witness_LoopTimersAndDoor :
    (∀ a h, (door a h).Ready) ∧ (door false .runout).zlp.hold = .runout ∧
    (door false .runout).zlp.holdTimer.isSome = true ∧
    (door true .opened).cfg.image = some img ∧ (door true .opened).stb.self = some own ∧
    (inStation .joining).mbr.station ≠ .member ∧ mem.mbr.station = .member ∧
    img.doorEnabled = true ∧ 0 < img.holdTime ∧ ({ img with holdTime := 0 } : Image).holdTime = 0 ∧
    (mem.setCfg { mem.cfg with image := some { img with doorEnabled := false } }).stb.self =
      some own :=
  ⟨fun a h => ⟨rfl, rfl⟩, by decide +kernel⟩

theorem witness_EffectiveOnTime :
    (0 : Nat) ≤ 99 ∧ (100 : Nat) ≤ 100 ∧ (900 : Nat) ≤ 900 ∧ (901 : Nat) ≤ 999 ∧
    ({ mem.dcc with cool := { half with active := 1000, buffered := 1000 } } : Drives).cool.active ≤
      1000 ∧
    ({ mem.dcc with cool := half } : Drives).cool.on = true ∧
    0 < ({ mem.dcc with cool := half } : Drives).cool.active ∧ mem.dcc.cool.on = false := by
  decide +kernel

theorem witness_CapIsPushed :
    dutyOf .blower 499 < (mem.dcc.channel .blower).active ∧
    (mem.dcc.channel .blower).active ≤ dutyOf .blower 500 ∧
    dutyOf .coolValve 99 < ({ mem.dcc with cool := half }.channel .coolValve).active ∧
    (0 : Nat) < 99 ∧ DutyChannel.heatValve ≠ .blower := by decide +kernel

/-- A cool valve at rest whose on phase waits for the end of the rest. -/
def resting : State :=
  mem.setDcc { mem.dcc with
    cool := { half with on := false }, restTimer := some 5, deferred := true }

theorem witness_PeriodsRun :
    mem.Ready ∧ (∀ ch, (mem.dcc.channel ch).start.isSome = true) ∧
    (mem.dcc.channel .heatValve).on = true ∧ (mem.dcc.channel .heatValve).active < 1000 ∧
    ({ mem.dcc with cool := { half with active := 999 } } : Drives).cool.active < 1000 ∧
    (resting.Ready ∧ resting.dcc.restTimer = some 5 ∧ resting.dcc.deferred = true ∧
      resting.dcc.cool.start = some 0 ∧ resting.dcc.cool.on = false ∧
      0 < resting.dcc.cool.active) :=
  ⟨⟨rfl, rfl⟩, fun ch => by cases ch <;> rfl, by decide +kernel, by decide +kernel,
    by decide +kernel, ⟨rfl, rfl⟩, by decide +kernel⟩

/-- A damper in its dead time. -/
def dead (h : Homed) (p : Option Nat) : State :=
  mem.setDcc { mem.dcc with damper := { (moving h .dead p 40).dcc.damper with
    deadTimer := some 1, homingSteps := 109 } }

theorem witness_DamperMoves :
    (∀ h m p t, (moving h m p t).Ready) ∧
    ((moving .homed .opening (some 39) 40).dcc.damper.homed = .homed ∧
      (moving .homed .opening (some 39) 40).dcc.damper.motion = .opening ∧
      (moving .homed .opening (some 39) 40).dcc.damper.position = some 39 ∧
      (moving .homed .opening (some 39) 40).dcc.damper.stepTimer.isSome = true) ∧
    ((moving .homed .closing (some 1) 0).dcc.damper.motion = .closing ∧
      (moving .homed .closing (some 1) 0).dcc.damper.position = some (0 + 1)) ∧
    ((dead .homing none).Ready ∧ (dead .homing none).dcc.damper.homed = .homing ∧
      (dead .homing none).dcc.damper.stepTimer.isSome = true ∧
      (dead .homing none).travel + 10 ≤ (dead .homing none).dcc.damper.homingSteps + 1 ∧
      (dead .homing none).dcc.damper.deadTimer.isSome = true) ∧
    ((dead .homed (some 40)).Ready ∧ (dead .homed (some 40)).dcc.damper.homed = .homed ∧
      (dead .homed (some 40)).dcc.damper.deadTimer.isSome = true ∧
      (dead .homed (some 40)).dcc.damper.position = some 40 ∧
      (dead .homed (some 40)).mbr.station ≠ .isolated) ∧
    mem.dcc.damper.homed = .homed ∧ mem.dcc.damper.motion ≠ .closing := by
  refine ⟨fun h m p t => ⟨rfl, rfl⟩, ?_⟩
  unfold State.Ready; decide +kernel

theorem witness_BlowerIsWatched :
    ((watched 2).Ready ∧ (watched 2).cfg.image.isSome = true ∧
      (watched 2).dcc.fan.lastEdge = some 0 ∧ (watched 2).dcc.fan.condition = .running ∧
      200 ≤ ({ half with active := 200 } : Channel).active ∧ 200 ≤ (watched 2).dcc.blower.active ∧
      (watched 2).dcc.fan.stallTimer.isSome = true ∧ (watched 2).dcc.fan.stallCount + 1 = 3 ∧
      (watched 1).dcc.fan.stallCount + 1 < 3 ∧ (watched 2).dcc.fan.goodRunTimer.isSome = true) ∧
    ((watched 2).mbr.station = .member ∧ (watched 2).cfg.image = some img ∧
      (watched 2).stb.self = some own ∧ 0 < own.committed.get .heat ∧
      (watched 2).txq.onWire ≠ some (.claim .heat)) ∧
    stalled.Ready ∧ stalled.dcc.fan.restartTimer.isSome = true ∧
    stalled.dcc.fan.condition = .stalled := by
  unfold State.Ready; decide +kernel

/-- The Service Line with `n` events and a mask. -/
def collected (mask : BitVec 32) (n : Nat) : ServiceLine :=
  { mem.svc with mask := mask, fifo := List.replicate n someEvent }

theorem witness_EventsAreCollected :
    (collected 0#32 15).mask.getLsbD someEvent.kind.code = false ∧
    (collected 0x3FFFFF#32 15).mask.getLsbD someEvent.kind.code = true ∧
    (collected 0x3FFFFF#32 15).fifo.length < 16 ∧
    16 ≤ (collected 0x3FFFFF#32 16).fifo.length := by decide +kernel

theorem witness_ReceiverStates :
    (∀ r n b, (hearing r n b).Ready) ∧ (hearing .busy 0 []).svc.rx = .busy ∧
    mem.svc.rx = .hunt ∧ (hearing .length 0 []).svc.rx = .length ∧ (8#8).toNat ≤ 8 ∧
    8 < (9#8).toNat ∧ (hearing .body 1 [6#8]).svc.rx = .body ∧
    (hearing .body 1 [6#8]).svc.buffer.length + 1 < (hearing .body 1 [6#8]).svc.length + 2 ∧
    (hearing .body 1 [6#8, 0#8]).svc.buffer = 6#8 :: [0#8] ∧
    (hearing .body 1 [6#8, 0#8]).svc.length = [0#8].length ∧
    checksumGood 6#8 [0#8] 248#8 = false ∧
    (hearing .body 0 [0#8]).svc.buffer = 0#8 :: [] ∧ checksumGood 0#8 [] 0#8 = true ∧
    checksumGood 14#8 [] 242#8 = true ∧ (13 : Nat) < (14#8).toNat ∧
    (hearing .body 1 [6#8, 226#8]).svc.buffer = BitVec.ofNat 8 6 :: [226#8] ∧
    checksumGood 6#8 [226#8] 23#8 = true ∧ (hearing .busy 0 []).svc.interByte.isSome = true ∧
    (hearing .body 1 [6#8]).svc.interByte.isSome = true :=
  ⟨fun _ _ _ => ⟨rfl, rfl⟩, by decide +kernel⟩

/-- A message to a row is taken in a state. -/
theorem takes_of (code : Nat) (p : List Byte) (s : State) (r : s.Ready)
    (h : (decide (s.svc.rx ≠ .busy) && decide ((msg code p).payload.length ≤ 8) &&
      checksumGood (BitVec.ofNat 8 code) p (msg code p).checksum &&
      !s.mbr.station.notReady) = true) : s.Takes code (msg code p) := by
  simp only [Bool.and_eq_true, decide_eq_true_eq, Bool.not_eq_true'] at h
  exact ⟨r, h.1.1.1, h.1.1.2, h.1.2, fun x => absurd x (by simp [h.2])⟩

theorem mem_Ready : mem.Ready := ⟨rfl, rfl⟩

theorem witness_CommandsAnswer :
    (mem.Takes 1 (msg 1 []) ∧ mem.Takes 2 (msg 2 [11#8]) ∧ (11#8).toNat ≤ 11 ∧
      mem.Takes 3 (msg 3 []) ∧ mem.Takes 4 (msg 4 []) ∧ mem.Takes 8 (msg 8 [])) ∧
    (mem.Takes 5 (msg 5 [1#8, 44#8, 0#8]) ∧ mem.mbr.station = .member ∧
      be16 1#8 44#8 = 300 ∧ be16 0#8 160#8 = 160 ∧ setModeOfCode (0#8).toNat = some .off) ∧
    (mem.Takes 6 (msg 6 [226#8]) ∧ signed8 226#8 = -30 ∧ signed8 30#8 = 30) ∧
    mem.Takes 7 (msg 7 []) ∧ mem.Takes 9 (msg 9 []) ∧ mem.Takes 10 (msg 10 []) ∧
    (mem.Takes 12 (msg 12 [1#8, 5#8, 160#8]) ∧ parkDepthOfCode (1#8).toNat = some .deep ∧
      be16 5#8 160#8 = 1440) ∧ mem.Takes 13 (msg 13 [1#8, 2#8, 3#8, 4#8]) := by
  refine ⟨⟨?_, ?_, by decide, ?_, ?_, ?_⟩, ⟨?_, by decide +kernel⟩, ⟨?_, by decide +kernel⟩,
    ?_, ?_, ?_, ⟨?_, by decide +kernel⟩, ?_⟩ <;> exact takes_of _ _ _ mem_Ready (by decide +kernel)

theorem witness_ClearFaultClears : stalled.Takes 11 (msg 11 []) ∧ (msg 11 []).payload = [] :=
  ⟨takes_of _ _ _ ⟨rfl, rfl⟩ (by decide +kernel), rfl⟩

theorem witness_CommandsAreRefused :
    ((6, Instr.offsetSet) ∈ serviceRows ∧ (hearing .busy 0 []).svc.rx = .busy) ∧
    (mem.svc.rx ≠ .busy ∧
      checksumGood (BitVec.ofNat 8 6) [0#8] ((msg 6 [0#8]).checksum + 1#8) = false) ∧
    (State.reset.Ready ∧ State.reset.mbr.station = .configRead ∧
      State.reset.svc.rx ≠ .busy ∧
      checksumGood (BitVec.ofNat 8 6) [0#8] (msg 6 [0#8]).checksum = true) ∧
    (mem.Takes 6 (msg 6 [31#8]) ∧ parseCommand 6 [31#8] = none) ∧
    (inStation .joining).Takes 12 (msg 12 [0#8, 0#8, 0#8]) ∧
    parseCommand 12 [0#8, 0#8, 0#8] ≠ none ∧ (inStation .joining).mbr.station ≠ .member := by
  refine ⟨⟨?_, ?_⟩, ?_, ⟨⟨rfl, rfl⟩, ?_⟩,
    ⟨takes_of _ _ _ mem_Ready (by decide +kernel), ?_⟩,
    takes_of _ _ _ ⟨rfl, rfl⟩ (by decide +kernel), ?_⟩
  · simp [serviceRows]
  all_goals decide +kernel

end Sys2Proof.Tests
end

section
/-! SUPPORT. The Transmit Queue's keys and combining (R90, R92), the start of a frame and the two outcomes of the frame on the wire (R93, R96), said once for each operation. -/

namespace Sys2Proof.Machine

/-! ### Asking for an intent -/

theorem TransmitQueue.ask_of_onWire {q : TransmitQueue} {i : Intent}
    (h : q.onWire = some i.key) :
    q.ask i = { q with replacements := q.replacements.combine i } := if_pos h

theorem TransmitQueue.ask_of_not_onWire {q : TransmitQueue} {i : Intent}
    (h : q.onWire ≠ some i.key) :
    q.ask i = { q with intents := q.intents.combine i } := if_neg h

/-! ### Combining -/

/-- A claim key after an intent for its resource holds what the claim rows of the table give. -/
theorem Intents.combine_claim_get (q : Intents) (r : Resource) (i : ClaimIntent) :
    (q.combine (.claim r i)).claim.get r = some (combineClaim (q.claim.get r) i) :=
  Per.get_set q.claim r _

/-- The claim rows of the table, read at the key: what it holds before says what it holds after. -/
theorem Intents.combine_claim_of_get {q : Intents} {r : Resource} {held : Option ClaimIntent}
    (h : q.claim.get r = held) (i : ClaimIntent) :
    (q.combine (.claim r i)).claim.get r = some (combineClaim held i) := by
  rw [q.combine_claim_get, h]

/-- The keys that carry nothing hold one intent, whatever they held. -/
theorem Intents.combine_mark_get (q : Intents) {i : Intent}
    (h : i = .wake ∨ i = .supplyLapse ∨ i = .state ∨ i = .join) :
    (q.combine i).get i.key = some i := by
  obtain rfl | rfl | rfl | rfl := h <;> rfl

/-- An intent reaches its own key only. -/
theorem Intents.combine_get_other (q : Intents) {i : Intent} {k : Key} (h : k ≠ i.key) :
    (q.combine i).get k = q.get k := by
  cases i with
  | claim r c =>
    cases k with
    | claim r' =>
      have other : r' ≠ r := fun e => h (congrArg Key.claim e)
      exact congrArg (Option.map (Intent.claim r')) (Per.get_set_other q.claim _ other)
    | park | wake | supplyLapse | setpoint | state | join => rfl
  | park | wake | supplyLapse | setpoint | state | join =>
    cases k <;> first | rfl | exact absurd rfl h

/-! ### The frame on the wire -/

/-- The own verdict at a frame's start is the Claim Judge's alone. -/
theorem State.unjudge_cjg (s : State) (f : FrameBody) :
    s.unjudge f = s.setCjg (s.unjudge f).cjg := by
  cases f <;> rfl

@[simp] theorem State.startFrame_txq (s : State) (i : Intent) (f : FrameBody) :
    (s.startFrame i f).txq = { s.txq with onWire := some i.key } := by
  rw [State.startFrame, State.unjudge_cjg]
  rfl

@[simp] theorem State.startFrame_wire (s : State) (i : Intent) (f : FrameBody) :
    (s.startFrame i f).lnk.wire = some f := by
  rw [State.startFrame, State.unjudge_cjg]
  rfl

@[simp] theorem TransmitQueue.completed_onWire (q : TransmitQueue) (paced : Bool) :
    (q.completed paced).onWire = none := by
  unfold TransmitQueue.completed
  split
  next idle => exact idle
  next => rfl

@[simp] theorem TransmitQueue.returned_onWire (q : TransmitQueue) : q.returned.onWire = none := by
  unfold TransmitQueue.returned
  split
  next idle => exact idle
  next => rfl

end Sys2Proof.Machine
end

section
/-! PROOF. R92's combining table and the span in which an intent is on the wire. -/

namespace Sys2Proof.Machine

/-- Settles O35: each clause is a rule of the queue or a row of the combining table. -/
theorem askedIntentsCombine : Obligations.AskedIntentsCombine := by
  refine ⟨fun q i onWire => ?_, fun q i offWire => ?_, ?claimFree, ?requestRequest,
    ?requestRelease, ?releaseRequest, ?releaseRelease, ?park, ?setpoint, ?mark, ?otherKey,
    ?started, ?ended⟩
  · rw [TransmitQueue.ask_of_onWire onWire]
    exact ⟨rfl, rfl⟩
  · rw [TransmitQueue.ask_of_not_onWire offWire]
    exact ⟨rfl, rfl⟩
  case claimFree => exact fun q r i free => Intents.combine_claim_of_get free i
  case requestRequest => exact fun q r c c' held => Intents.combine_claim_of_get held (.request c')
  case requestRelease => exact fun q r c t held => Intents.combine_claim_of_get held (.release t)
  case releaseRequest => exact fun q r t c held => Intents.combine_claim_of_get held (.request c)
  case releaseRelease => exact fun q r t t' held => Intents.combine_claim_of_get held (.release t')
  case park => exact fun q p => rfl
  case setpoint => exact fun q p => rfl
  case mark => exact fun q i isMark => q.combine_mark_get isMark
  case otherKey => exact fun q i k other => q.combine_get_other other
  case started => exact fun s i f => ⟨s.startFrame_txq i f, s.startFrame_wire i f⟩
  case ended => exact fun q paced => ⟨q.completed_onWire paced, q.returned_onWire⟩

end Sys2Proof.Machine
end

section
/-! SUPPORT. The conversion of a count and what a sample does to the state (R122, R123). -/

namespace Sys2Proof.Machine

/-- R123: a count that is not faulted is converted. -/
theorem convert_of_valid (cal : Calibration) {count : BitVec 12} (notZero : count.toNat ≠ 0)
    (notFull : count.toNat ≠ 4095) :
    convert cal count = .valid (clampInt (-32768) 32767
      ((((count.toNat : Int) - (cal.zero : Int)) * 80).tdiv (cal.scale : Int))) :=
  if_neg (not_or.mpr ⟨notZero, notFull⟩)

/-- The reading of a return-air count uses the return-air calibration of the image. -/
theorem State.readReturn_of_image {s : State} {img : Image} (image : s.cfg.image = some img)
    (count : BitVec 12) : s.readReturn count = convert img.returnCal count := by
  rw [State.readReturn, image]

/-- R122: where the station converts, a fitted input's reading is replaced by the count at that sensor's own calibration; an input that is not fitted has no sample. -/
theorem State.sensorSample_of_converts {s : State} {img : Image} (image : s.cfg.image = some img)
    (converts : s.mbr.station.converts = true) (x : Sensor) (count : BitVec 12) :
    s.sensorSample x count =
      if img.fitted x then s.setZlp (s.zlp.withReading x (convert (img.calibration x) count))
      else s := by
  simp only [State.sensorSample, image, converts, Bool.true_and]

/-- A sample raises no event. -/
@[simp] theorem State.sensorSample_raised (s : State) (x : Sensor) (count : BitVec 12) :
    (s.sensorSample x count).raised = s.raised := by
  unfold State.sensorSample
  split
  next => rfl
  next => split <;> rfl

/-- SENSOR_SAMPLE between commands of the running part is the sample and nothing else. -/
theorem exec_sensorSample_of_ready {s : State} (ready : s.Ready) (x : Sensor)
    (count : BitVec 12) : exec (.sensorSample x count) s = .next (s.sensorSample x count) := by
  obtain ⟨running, noEvent⟩ := ready
  exact State.run_quiet (f := fun s => s.sensorSample x count) running
    ((s.sensorSample_raised x count).trans noEvent)

end Sys2Proof.Machine
end

section
/-! PROOF. The conversion of counts by each sensor's own calibration. -/

namespace Sys2Proof.Machine

/-- Settles O46: the sample's rule at each of the three sensors, beside the conversion's own rule and its two examples. -/
theorem countsAreConverted : Obligations.CountsAreConverted := by
  refine ⟨fun cal count notZero notFull => convert_of_valid cal notZero notFull,
    by decide, by decide, fun s img count ready image converts => ?samples,
    fun s img count image => State.readReturn_of_image image count⟩
  case samples =>
    have sampled (x : Sensor) : exec (.sensorSample x count) s = .next
        (if img.fitted x then s.setZlp (s.zlp.withReading x (convert (img.calibration x) count))
         else s) := by
      rw [exec_sensorSample_of_ready ready, State.sensorSample_of_converts image converts]
    exact ⟨sampled .returnAir, sampled .discharge, sampled .outdoor⟩

end Sys2Proof.Machine
end

section
/-! SUPPORT. The rows of the effective on-time (R150), what a followed cap makes of the duties and the output of a channel (R145), and the periods of a channel at full duty (R146). -/

namespace Sys2Proof.Machine

/-- R150: a duty below 100 ‰ opens the valve for no part of the cycle. -/
theorem effectiveOn_of_lt {d : Nat} (low : d < 100) : effectiveOn d = 0 := if_pos low

/-- R150: a duty from 100 ‰ to 900 ‰ is its own on-time. -/
theorem effectiveOn_of_between {d : Nat} (least : 100 ≤ d) (most : d ≤ 900) :
    effectiveOn d = d :=
  (if_neg (Nat.not_lt.mpr least)).trans (if_pos most)

/-- R150: a duty above 900 ‰ and short of the whole cycle leaves the valve the last 100 ‰ for its rest. -/
theorem effectiveOn_of_above {d : Nat} (above : 900 < d) (short : d < 1000) :
    effectiveOn d = 900 := by
  have notLow : ¬ d < 100 := by omega
  rw [effectiveOn, if_neg notLow, if_neg (Nat.not_le.mpr above), if_pos short]

/-- No channel takes a duty from a cap of 0. -/
@[simp] theorem dutyOf_zero (ch : DutyChannel) : dutyOf ch 0 = 0 := by cases ch <;> rfl

/-- A duty of 0 has no on-time. -/
@[simp] theorem onTime_zero (ch : DutyChannel) : onTime ch 0 = 0 := by cases ch <;> rfl

/-- R145: the duties of a channel after a cap that it follows: the cap's duty is buffered and bounds the active one. -/
theorem channel_pushCap_duties (d : Drives) (ch : DutyChannel) (cap k : Nat) :
    ((d.pushCap ch cap true k).channel ch).cap = cap ∧
    ((d.pushCap ch cap true k).channel ch).buffered = dutyOf ch cap ∧
    ((d.pushCap ch cap true k).channel ch).active =
      min (d.channel ch).active (dutyOf ch cap) := by
  rw [channel_pushCap]
  by_cases closed : cap = 0
  · simp [closed]
  · by_cases below : dutyOf ch cap < (d.channel ch).active
    · simp [closed, below, Nat.min_eq_right (Nat.le_of_lt below)]
    · simp [closed, below, Nat.min_eq_left (Nat.not_lt.mp below)]

/-- R145: a pushed cap switches no output on; an on phase begins only at a period's start or a rest's end. -/
theorem channel_pushCap_stays_off {d : Drives} {ch : DutyChannel}
    (off : (d.channel ch).on = false) (cap : Nat) (follows : Bool) (k : Nat) :
    ((d.pushCap ch cap follows k).channel ch).on = false := by
  rw [channel_pushCap]
  dsimp only
  split
  next => exact off
  next =>
    split
    next => rfl
    next =>
      split
      next => simp [off]
      next => exact off

/-- R148: a followed cap whose duty is 0 cuts a running on phase at once. -/
theorem channel_pushCap_off_of_no_duty {d : Drives} {ch : DutyChannel} {cap : Nat}
    (noDuty : dutyOf ch cap = 0) (active : 0 < (d.channel ch).active) (k : Nat) :
    ((d.pushCap ch cap true k).channel ch).on = false := by
  rw [channel_pushCap]
  by_cases closed : cap = 0
  · simp [closed]
  · simp [closed, noDuty, active]

/-- R146: a channel at full duty has no end of its on-time within the period. -/
theorem onTimePassed_of_full {d : Drives} {ch : DutyChannel}
    (full : 1000 ≤ (d.channel ch).active) (k : Nat) : d.onTimePassed ch k = d :=
  if_neg fun passed => Nat.not_lt.mpr full passed.2

/-- R151: a cool valve that is open where a period with a duty begins stays open, with no rest in between. -/
theorem cool_beginPeriod_of_on {d : Drives} (on : d.cool.on = true) (duty : 0 < d.cool.active)
    (k : Nat) : (d.beginPeriod .coolValve k).cool = d.cool := by
  have notZero : d.cool.active ≠ 0 := Nat.ne_of_gt duty
  simp [Drives.beginPeriod, Drives.channel, on, notZero]

/-- R147: the end of a running period loads a higher buffered duty and begins the next one. -/
theorem periodEnd_of_started {d : Drives} {ch : DutyChannel} {b : Nat}
    (started : (d.channel ch).start = some b) (k : Nat) :
    d.periodEnd ch k =
      (d.setChannel ch { d.channel ch with
        active := max (d.channel ch).active (d.channel ch).buffered
        start := some k }).beginPeriod ch k := by
  simp only [Drives.periodEnd, started]

/-- R146: a channel whose periods do not run has no period end. -/
theorem periodEnd_of_not_started {d : Drives} {ch : DutyChannel}
    (notStarted : (d.channel ch).start = none) (k : Nat) : d.periodEnd ch k = d := by
  simp only [Drives.periodEnd, notStarted]

/-- R147: the end of a period leaves an open cool valve with a duty open, and loads the higher of its duties where the periods run. -/
theorem cool_periodEnd_of_on {d : Drives} (on : d.cool.on = true) (duty : 0 < d.cool.active)
    (k : Nat) : (d.periodEnd .coolValve k).cool.on = true ∧
      (d.periodEnd .coolValve k).cool.active =
        if d.cool.start.isSome then max d.cool.active d.cool.buffered else d.cool.active := by
  cases started : d.cool.start with
  | none =>
    rw [periodEnd_of_not_started (ch := .coolValve) started]
    exact ⟨on, rfl⟩
  | some b =>
    have loadedDuty : 0 < max d.cool.active d.cool.buffered :=
      Nat.lt_of_lt_of_le duty (Nat.le_max_left _ _)
    rw [periodEnd_of_started (ch := .coolValve) started, cool_beginPeriod_of_on]
    · exact ⟨on, rfl⟩
    · exact on
    · exact loadedDuty

end Sys2Proof.Machine
end

section
/-! PROOF. The effective on-time of COOLV in its cap, its duties and its output. -/

namespace Sys2Proof.Machine

/-- Settles O51: the rows of the table, the rule of a followed cap at the cool valve, and the caps of 60, 950 and 1000. -/
theorem effectiveOnTime : Obligations.EffectiveOnTime := by
  refine ⟨fun d low => effectiveOn_of_lt (Nat.lt_succ_of_le low),
    fun d least most => effectiveOn_of_between least most,
    fun d above short => effectiveOn_of_above above (Nat.lt_succ_of_le short), rfl,
    fun d => (effectiveOn_le d).1,
    fun d cap clock _ => channel_pushCap_duties d .coolValve cap clock,
    fun d clock _ active => ?cutAt60, fun d clock off => ?offAt60, fun d clock => ?capAt950,
    fun d clock on active buffered => ?capAt1000⟩
  case cutAt60 =>
    have noDuty : dutyOf .coolValve 60 = 0 := effectiveOn_of_lt (by decide)
    exact channel_pushCap_off_of_no_duty noDuty active clock
  case offAt60 => exact channel_pushCap_stays_off (ch := .coolValve) off 60 true clock
  case capAt950 =>
    obtain ⟨-, held, -⟩ := channel_pushCap_duties d .coolValve 950 clock
    exact held.trans (effectiveOn_of_above (by decide) (by decide))
  case capAt1000 =>
    have full : 1000 ≤ (d.channel .coolValve).active := Nat.le_of_eq active.symm
    have duty : 0 < d.cool.active := Nat.lt_of_lt_of_le (by decide) full
    obtain ⟨staysOn, loaded⟩ := cool_periodEnd_of_on on duty clock
    refine ⟨by rw [onTimePassed_of_full full, on], staysOn, ?_⟩
    rw [loaded, active, buffered, Nat.max_self, ite_self]

end Sys2Proof.Machine
end

section
/-! SUPPORT. What a step can do, said once: the effect of each command, which commands a held part takes, and the rule by which a predicate holds after every step. -/

namespace Sys2Proof.Machine

/-- What a command does to the part before its events are entered (R189). -/
def effect (c : Instr) (s : State) : State :=
  match c with
  | .vlogFall => s.vlogFall
  | .vlogRise => s.vlogRise
  | .resetnLow => s.resetnLow
  | .resetnHigh => s.resetnHigh
  | .supplySample value => s.takeSupplySample value
  | .recoveryTimerExpiry => s.recover
  | .readyPollStatus status => s.pollStatus status
  | .configReadEnd block => s.readEnd block
  | .configReadTimeout => s.readTimeout
  | .linkIdle => s.lineIdle
  | .transmissionStart => s.transmit
  | .arbitrationLost => s.loseArbitration
  | .bitError => s.bitError
  | .framingFailure cause => s.framingFailure cause
  | .requestJudged none => s.judgeOwn
  | .requestJudged (some b) => s.judgeHeard b
  | .malformedArrival kind body slots => s.arrive kind body slots
  | .voidArrival kind body slots => s.arrive kind body slots
  | .addressClash kind body slots => s.arrive kind body slots
  | .requestArrival body slots => s.arrive 4#3 body slots
  | .releaseArrival body slots => s.arrive 3#3 body slots
  | .supplyArrival body slots => s.arrive 2#3 body slots
  | .setpointArrival body slots => s.arrive 5#3 body slots
  | .stateArrival body slots => s.arrive 6#3 body slots
  | .joinArrival body slots => s.arrive 7#3 body slots
  | .parkArrival body slots => s.arrive 0#3 body slots
  | .wakeArrival body slots => s.arrive 1#3 body slots
  | .ownRequestCompletion ack veto => s.requestDone ack veto
  | .ownReleaseCompletion ack => s.releaseDone ack
  | .ownSupplyCompletion ack => s.supplyDone ack
  | .ownSetpointCompletion ack => s.setpointDone ack
  | .ownParkCompletion ack => s.parkDone ack
  | .ownJoinCompletion ack => s.joinDone ack
  | .ownStateCompletion ack => s.stateDone ack
  | .ownWakeCompletion ack => s.wakeDone ack
  | .voidCompletion => s.voidDone
  | .ageTickExpiry => s.ageTick
  | .untrackedTimerExpiry => s.untrackedEnd
  | .supplyTimerExpiry resource => s.supplyExpired resource
  | .stateTimerExpiry => s.stateExpired
  | .refusalHoldOffExpiry resource => s.holdOffEnd resource
  | .spacingExpiry resource => s.spacingEnd resource
  | .settleTimerExpiry => s.settled
  | .censusTimerExpiry => s.censusEnd
  | .selfSilenceExpiry => s.silenceEnd
  | .quietTimerExpiry => s.quietEnd
  | .wakeTimerExpiry => s.wakeEnd
  | .sampleTimerExpiry count => s.freezeSample count
  | .wakeinActive => s.wakePin
  | .controlIntervalExpiry => s.interval
  | .switchTimerExpiry => s.setZlp { s.zlp with switchTimer := none }
  | .boostTimerExpiry => s.setZlp { s.zlp with boostTimer := none }
  | .doorInputChange active => s.doorChange active
  | .holdTimerExpiry => s.holdEnd
  | .frostTimerExpiry => s.setZlp { s.zlp with frostTimer := none }
  | .sensorSample sensor count => s.sensorSample sensor count
  | .periodEnd channel => s.periodEnded channel
  | .coolValveRestEnd => s.changeDrives Drives.restEnd
  | .stepTimerExpiry endStop => s.stepDone endStop
  | .deadTimerExpiry => s.deadDone
  | .dmpendActive => s.endStopActive
  | .tachEdge => s.tach
  | .stallTimerExpiry => s.stalled
  | .restartTimerExpiry => s.restartEnd
  | .goodRunTimerExpiry => s.goodRun
  | .serviceByteReceived byte framingError => if framingError then s else s.serviceByte byte
  | .interByteTimerExpiry => s.interByteEnd
  | .answerSent => s.answerEnd
  | .status message => s.message 1#8 message
  | .entry message => s.message 2#8 message
  | .capacity message => s.message 3#8 message
  | .setpointRead message => s.message 4#8 message
  | .setpointSet message => s.message 5#8 message
  | .offsetSet message => s.message 6#8 message
  | .events message => s.message 7#8 message
  | .counters message => s.message 8#8 message
  | .clearCounters message => s.message 9#8 message
  | .cause message => s.message 10#8 message
  | .clearFault message => s.message 11#8 message
  | .park message => s.message 12#8 message
  | .mask message => s.message 13#8 message
  | .startBitRead => s.startBitRead
  | .dominantBitInSeekingIdle endBit => s.dominantBit endBit
  | .onTimePassed channel => s.onTimePassed channel

/-- R166, R170: the commands that the Supply Monitor, a pin or a level takes in while the part is held. -/
def takenHeld : Instr → Bool
  | .vlogFall | .vlogRise | .resetnLow | .resetnHigh | .supplySample _ | .doorInputChange _
  | .dmpendActive => true
  | _ => false

/-- Every command acts by its effect, and but for `takenHeld` on the running part only. -/
theorem exec_eq (c : Instr) (s : State) :
    exec c s = if takenHeld c then s.always (effect c) else s.run (effect c) := by
  cases c with
  | requestJudged heard => cases heard <;> rfl
  | _ => rfl

/-- A command in the running part acts and its events are entered. -/
theorem exec_of_running {s : State} (running : s.held = false) (c : Instr) :
    exec c s = .next (effect c s).flush := by
  rw [exec_eq]
  split
  · rfl
  · exact State.run_of_running _ running

/-- A command between commands of the running part that raises no event. -/
theorem exec_of_ready {s : State} (ready : s.Ready) {c : Instr}
    (quiet : (effect c s).raised = []) : exec c s = .next (effect c s) := by
  rw [exec_of_running ready.1, State.flush_of_nil quiet]

/-- A command that a held part does not take changes nothing in it. -/
theorem exec_of_held {s : State} (held : s.held = true) {c : Instr} (out : takenHeld c = false) :
    exec c s = .next s := by
  rw [exec_eq, out, if_neg Bool.false_ne_true, State.run_of_held _ held]

/-- A command that is taken while the part is held acts in every state. -/
theorem exec_of_takenHeld (s : State) {c : Instr} (taken : takenHeld c = true) :
    exec c s = .next (effect c s).flush := by
  rw [exec_eq, taken, if_pos rfl]; rfl

/-- Every command answers a next state: the state itself where a held part does not take it, and otherwise what its effect leaves once its events are entered. -/
theorem exec_next {c : Instr} {s s' : State} (next : exec c s = .next s') :
    s' = s ∨ (s.held = true → takenHeld c = true) ∧ s' = (effect c s).flush := by
  cases held : s.held with
  | false =>
    rw [exec_of_running held] at next
    exact .inr ⟨nofun, (Host.Outcome.next.inj next).symm⟩
  | true =>
    cases taken : takenHeld c with
    | false =>
      rw [exec_of_held held taken] at next
      exact .inl (Host.Outcome.next.inj next).symm
    | true =>
      rw [exec_of_takenHeld s taken] at next
      exact .inr ⟨fun _ => rfl, (Host.Outcome.next.inj next).symm⟩

/-- The expiry that the clock runs next is one of those that are due. -/
theorem State.nextExpiry_cases (s : State) :
    s.due = [] ∧ s.nextExpiry = none ∨ ∃ c ∈ s.due, s.nextExpiry = some c := by
  unfold State.nextExpiry
  split
  next none => exact .inl ⟨none, rfl⟩
  next c one => exact .inr ⟨c, one ▸ List.mem_singleton.mpr rfl, rfl⟩
  next c c' cs many =>
    have within : s.free % (cs.length + 2) < (c :: c' :: cs).length :=
      Nat.mod_lt _ (Nat.succ_pos _)
    refine .inr ⟨_, ?_, rfl⟩
    rw [many, List.getD_eq_getElem _ _ within]
    exact List.getElem_mem within

/-- An idle step of the running part with nothing due lets one clock unit pass. -/
theorem idle_of_nothing_due {s : State} (running : s.held = false) (none : s.due = []) :
    idle s = .next s.tick := by
  unfold idle State.nextExpiry
  rw [running, none]
  rfl

/-- An idle step of the running part runs an expiry that is due. -/
theorem idle_of_due {s : State} (running : s.held = false) (due : s.due ≠ []) :
    ∃ c ∈ s.due, idle s = exec c s.drawnTwice := by
  obtain ⟨none, -⟩ | ⟨c, mem, next⟩ := s.nextExpiry_cases
  · exact absurd none due
  · refine ⟨c, mem, ?_⟩
    unfold idle
    rw [running, next]
    rfl

/-- An idle step of a held part changes nothing. -/
theorem idle_of_held {s : State} (held : s.held = true) : idle s = .next s := by
  unfold idle
  rw [held]
  rfl

/-- A step runs the command at the front of the queue on the state with the queue's rest. -/
theorem step_of_front {s : State} {c : Instr} {cs : List Instr} (front : s.pending = c :: cs) :
    step s = exec c (s.setPending cs) := by
  unfold step
  rw [front]

/-- A step on an empty queue is an idle step. -/
theorem step_of_empty {s : State} (empty : s.pending = []) : step s = idle s := by
  unfold step
  rw [empty]

/-- The rule for invariants: what stands when the queue or the count of free values moves, when a clock unit passes, and after every command that acts, stands after every step. -/
theorem step_keeps {P : State → Prop} (queue : ∀ s cs, P s → P (s.setPending cs))
    (drawn : ∀ s, P s → P s.drawnTwice) (tick : ∀ s, P s → s.held = false → P s.tick)
    (acts : ∀ c s, (s.held = true → takenHeld c = true) → P s → P (effect c s).flush)
    {s s' : State} (holds : P s) (next : step s = .next s') : P s' := by
  have runs {c : Instr} {x : State} (hx : P x) (hn : exec c x = .next s') : P s' := by
    obtain rfl | ⟨taken, rfl⟩ := exec_next hn
    · exact hx
    · exact acts c x taken hx
  cases pending : s.pending with
  | cons c cs =>
    rw [step_of_front pending] at next
    exact runs (queue s cs holds) next
  | nil =>
    rw [step_of_empty pending] at next
    cases held : s.held with
    | true =>
      rw [idle_of_held held] at next
      exact Host.Outcome.next.inj next ▸ holds
    | false =>
      by_cases due : s.due = []
      · rw [idle_of_nothing_due held due] at next
        exact Host.Outcome.next.inj next ▸ tick s holds held
      · obtain ⟨c, -, runsDue⟩ := idle_of_due held due
        exact runs (drawn s holds) (runsDue ▸ next)

end Sys2Proof.Machine
end

section
/-! PROOF. The step: the front of the queue, and the clock on an empty queue. -/

namespace Sys2Proof.Machine

/-- Settles O1. -/
theorem frontCommandRuns : Obligations.FrontCommandRuns :=
  fun _ _ _ front => step_of_front front

/-- Settles O2: the three cases of an idle step. -/
theorem emptyQueueStep : Obligations.EmptyQueueStep := by
  intro s empty
  rw [step_of_empty empty]
  exact ⟨idle_of_held, fun running none => ⟨idle_of_nothing_due running none, rfl⟩, idle_of_due⟩

end Sys2Proof.Machine
end

section
/-! SUPPORT. What the commands of the Service Line can do (R182, R183), and which commands leave the Supply Monitor, the image, the Service Line and the clock as they are. -/

namespace Sys2Proof.Machine

/-! ### The Service Line -/

/-- `t` differs from `s` in the receiver and the answer of the Service Line only. -/
structure PortMove (s t : State) : Prop where
  rest : t = s.setSvc t.svc
  fifo : t.svc.fifo = s.svc.fifo
  lost : t.svc.lost = s.svc.lost

theorem PortMove.refl (s : State) : PortMove s s := ⟨rfl, rfl, rfl⟩

/-- What a message taken by the Service Line comes to: nothing but an answer, or a command that the station state lets through and an answer. -/
inductive Served (s t : State) : Prop where
  | answered (port : PortMove s t)
  | obeyed (c : ServiceCommand) (member : c.needsMember = true → s.isMember = true)
      (ready : s.mbr.station.notReady = true → c = .status ∨ c = .cause)
      (port : PortMove (s.obey c) t)

theorem reply_port (s : State) (command : Byte) (status : AnswerStatus) (data : AnswerData) :
    PortMove s (s.reply command status data) := ⟨rfl, rfl, rfl⟩

theorem hunt_port (s : State) : PortMove s s.hunt := ⟨rfl, rfl, rfl⟩

/-- R183: what STATUS and CAUSE parse to. -/
theorem parse_of_alwaysReady {code : Nat} {payload : List Byte} {c : ServiceCommand}
    (always : alwaysReady code = true) (parsed : parseCommand code payload = some c) :
    c = .status ∨ c = .cause := by
  have which : code = 1 ∨ code = 10 := by simpa [alwaysReady] using always
  obtain rfl | rfl := which <;>
    · simp only [parseCommand, plainCommand, Option.ite_none_right_eq_some,
        Option.some.injEq] at parsed
      simp [← parsed.2]

/-- R183: the taking of a command with a good checksum. -/
theorem takeCommand_served (s : State) (command : Byte) (payload : List Byte) :
    Served s (s.takeCommand command payload) := by
  unfold State.takeCommand
  split
  · exact .answered (reply_port ..)
  split
  · exact .answered (reply_port ..)
  next letThrough =>
    split
    · exact .answered (reply_port ..)
    next c parsed =>
      split
      · exact .answered (reply_port ..)
      next member =>
        refine .obeyed c (fun needs => ?_) (fun notReady => ?_) ((reply_port ..) : PortMove _ _)
        · simpa [needs] using member
        · exact parse_of_alwaysReady (by simpa [notReady] using letThrough) parsed

theorem takeMessage_served (s : State) (command : Byte) (payload : List Byte) (checksum : Byte) :
    Served s (s.takeMessage command payload checksum) := by
  unfold State.takeMessage
  split
  · exact takeCommand_served s command payload
  · exact .answered (reply_port ..)

theorem message_served (s : State) (command : Byte) (m : ServiceMessage) :
    Served s (s.message command m) := by
  unfold State.message
  split
  · exact .answered (.refl s)
  split
  · exact .answered (hunt_port s)
  · exact takeMessage_served ..

theorem bodyByte_served (s : State) (b : Byte) : Served s (s.bodyByte b) := by
  unfold State.bodyByte
  dsimp only
  split
  · exact takeMessage_served ..
  · exact .answered ⟨rfl, rfl, rfl⟩

theorem serviceByte_served (s : State) (b : Byte) : Served s (s.serviceByte b) := by
  unfold State.serviceByte
  split
  · split
    · exact .answered ⟨rfl, rfl, rfl⟩
    · exact .answered (.refl s)
  · unfold State.lengthByte
    split
    · exact .answered ⟨rfl, rfl, rfl⟩
    · exact .answered (hunt_port s)
  · exact bodyByte_served s b
  · exact .answered (.refl s)

theorem interByteEnd_served (s : State) : Served s s.interByteEnd := by
  unfold State.interByteEnd
  split
  · exact .answered (.refl s)
  · dsimp only
    split <;> exact .answered ⟨rfl, rfl, rfl⟩

theorem answerEnd_served (s : State) : Served s s.answerEnd := by
  unfold State.answerEnd
  split
  · exact .answered ⟨rfl, rfl, rfl⟩
  · exact .answered (.refl s)

/-- The commands of the Service Line. -/
def serves : Instr → Bool
  | .serviceByteReceived _ _ | .interByteTimerExpiry | .answerSent | .status _ | .entry _
  | .capacity _ | .setpointRead _ | .setpointSet _ | .offsetSet _ | .events _ | .counters _
  | .clearCounters _ | .cause _ | .clearFault _ | .park _ | .mask _ => true
  | _ => false

/-- R182, R183: what a command of the Service Line can do. -/
theorem effect_served {c : Instr} (serving : serves c = true) (s : State) :
    Served s (effect c s) := by
  cases c with
  | serviceByteReceived b framingError =>
    cases framingError with
    | false => exact serviceByte_served s b
    | true => exact .answered (.refl s)
  | interByteTimerExpiry => exact interByteEnd_served s
  | answerSent => exact answerEnd_served s
  | status m | entry m | capacity m | setpointRead m | setpointSet m | offsetSet m | events m
  | counters m | clearCounters m | cause m | clearFault m | park m | mask m =>
    exact message_served s _ m
  | _ => exact absurd serving Bool.false_ne_true

/-! ### The other commands -/

/-- The commands of the Supply Monitor and its pins. -/
def monitors : Instr → Bool
  | .vlogFall | .vlogRise | .resetnLow | .resetnHigh | .supplySample _ | .recoveryTimerExpiry =>
    true
  | _ => false

/-- The commands of the Configuration Reader. -/
def reads : Instr → Bool
  | .readyPollStatus _ | .configReadEnd _ | .configReadTimeout => true
  | _ => false

theorem outer_clearFaults (s : State) : OuterSame s s.clearFaults := by
  unfold State.clearFaults
  dsimp only
  have latches := outer_changeDrives s Drives.clearLatches
  refine OuterSame.ite (OuterSame.trans ?_ (outer_homeDamper _)) ?_ <;>
    exact (latches.trans (blowerReport_notice _).outer).ite latches

/-- The commands of the link, the membership, the Zone Loop, the channels and the timers of table, records and queue leave the Supply Monitor, the image, the Service Line and the clock as they are. -/
theorem effect_outer {c : Instr} (noMonitor : monitors c = false) (noReader : reads c = false)
    (noService : serves c = false) (s : State) : OuterSame s (effect c s) := by
  cases c with
  | linkIdle => exact outer_lineIdle s
  | transmissionStart => exact outer_transmit s
  | arbitrationLost => exact outer_loseArbitration s
  | bitError => exact outer_bitError s
  | framingFailure cause => exact outer_framingFailure s cause
  | requestJudged heard =>
    cases heard with
    | none => exact outer_judgeOwn s
    | some b => exact outer_judgeHeard s b
  | malformedArrival kind body slots => exact outer_arrive s kind body slots
  | voidArrival kind body slots => exact outer_arrive s kind body slots
  | addressClash kind body slots => exact outer_arrive s kind body slots
  | requestArrival body slots => exact outer_arrive s 4#3 body slots
  | releaseArrival body slots => exact outer_arrive s 3#3 body slots
  | supplyArrival body slots => exact outer_arrive s 2#3 body slots
  | setpointArrival body slots => exact outer_arrive s 5#3 body slots
  | stateArrival body slots => exact outer_arrive s 6#3 body slots
  | joinArrival body slots => exact outer_arrive s 7#3 body slots
  | parkArrival body slots => exact outer_arrive s 0#3 body slots
  | wakeArrival body slots => exact outer_arrive s 1#3 body slots
  | ownRequestCompletion ack veto => exact outer_requestDone s ack veto
  | ownReleaseCompletion ack => exact outer_releaseDone s ack
  | ownSupplyCompletion ack => exact outer_supplyDone s ack
  | ownSetpointCompletion ack => exact outer_setpointDone s ack
  | ownParkCompletion ack => exact outer_parkDone s ack
  | ownJoinCompletion ack => exact outer_joinDone s ack
  | ownStateCompletion ack => exact outer_stateDone s ack
  | ownWakeCompletion ack => exact outer_wakeDone s ack
  | voidCompletion => exact outer_voidDone s
  | ageTickExpiry => exact outer_ageTick s
  | untrackedTimerExpiry => exact outer_untrackedEnd s
  | supplyTimerExpiry resource => exact outer_supplyExpired s resource
  | stateTimerExpiry => exact outer_stateExpired s
  | refusalHoldOffExpiry resource => exact outer_setTxq s _
  | spacingExpiry resource => exact outer_setTxq s _
  | settleTimerExpiry => exact outer_settled s
  | censusTimerExpiry => exact outer_censusEnd s
  | selfSilenceExpiry => exact outer_silenceEnd s
  | quietTimerExpiry => exact outer_quietEnd s
  | wakeTimerExpiry => exact outer_wakeEnd s
  | sampleTimerExpiry count => exact outer_freezeSample s count
  | wakeinActive => exact outer_wakePin s
  | controlIntervalExpiry => exact outer_interval s
  | switchTimerExpiry => exact outer_setZlp s _
  | boostTimerExpiry => exact outer_setZlp s _
  | doorInputChange active => exact outer_doorChange s active
  | holdTimerExpiry => exact outer_holdEnd s
  | frostTimerExpiry => exact outer_setZlp s _
  | sensorSample sensor count => exact outer_sensorSample s sensor count
  | periodEnd channel => exact outer_changeDrives s fun d => d.periodEnd channel s.clock
  | coolValveRestEnd => exact outer_changeDrives s _
  | stepTimerExpiry endStop => exact outer_stepDone s endStop
  | deadTimerExpiry =>
    exact outer_changeDamper s fun m => m.deadEnd s.clock s.damperMoves
  | dmpendActive => exact outer_endStopActive s
  | tachEdge => exact outer_tach s
  | stallTimerExpiry => exact outer_stalled s
  | restartTimerExpiry => exact outer_restartEnd s
  | goodRunTimerExpiry => exact outer_goodRun s
  | startBitRead => exact outer_startBitRead s
  | dominantBitInSeekingIdle endBit => exact outer_dominantBit s endBit
  | onTimePassed channel => exact outer_changeDrives s fun d => d.onTimePassed channel s.clock
  | vlogFall | vlogRise | resetnLow | resetnHigh | supplySample _ | recoveryTimerExpiry =>
    cases noMonitor
  | readyPollStatus _ | configReadEnd _ | configReadTimeout =>
    cases noReader
  | _ => cases noService

end Sys2Proof.Machine
end

section
/-! SUPPORT. Holds, restarts and samples (R166 to R172), said once: what a running part leaves at a hold, what a held part takes in, and what a release leaves. -/

namespace Sys2Proof.Machine

/-! ### The hold -/

/-- R170: in a running part no holding condition stands and no first sample is awaited. -/
theorem held_eq_false_iff (s : State) :
    s.held = false ↔ s.sup.standing = ⟨false, false, false⟩ ∧ s.sup.awaiting = false := by
  rcases hs : s.sup.standing with ⟨vlog, pin, cut⟩
  simp [State.held, Supply.holds, Holds.any, hs, and_assoc]

/-- Whether the part is held is told by the Supply Monitor. -/
theorem held_congr {s t : State} (sup : t.sup = s.sup) : t.held = s.held := by
  unfold State.held
  rw [sup]

theorem hold_of_running {s : State} (running : s.held = false) (u : Supply) :
    s.hold u = (s.setSup { u with recovery := none }).restartBlocks := by
  rw [State.hold, running]
  rfl

theorem hold_of_held {s : State} (held : s.held = true) (u : Supply) : s.hold u = s.setSup u := by
  rw [State.hold, held]
  rfl

theorem unhold_of_holds {u : Supply} (holds : u.holds = true) (s : State) :
    s.unhold u = s.setSup u := by
  rw [State.unhold, holds]
  rfl

theorem unhold_of_released {u : Supply} (released : u.holds = false) (s : State) :
    s.unhold u = (s.setSup u).releaseHold := by
  rw [State.unhold, released]
  rfl

/-- R171: a restart puts every block but the Supply Monitor at its content after any restart. -/
theorem restartBlocks_atRestart (s : State) (u : Supply) :
    s.AtRestart ((s.setSup u).restartBlocks) :=
  ⟨rfl, rfl, rfl, rfl, rfl, rfl, rfl, rfl, rfl, rfl, rfl, rfl⟩

@[simp] theorem State.restartBlocks_sup (s : State) : s.restartBlocks.sup = s.sup := rfl
@[simp] theorem State.restartBlocks_cfg (s : State) : s.restartBlocks.cfg = .reset := rfl
@[simp] theorem State.restartBlocks_svc (s : State) : s.restartBlocks.svc = .reset := rfl
@[simp] theorem State.restartBlocks_clock (s : State) : s.restartBlocks.clock = s.clock := rfl
@[simp] theorem State.restartBlocks_raised (s : State) : s.restartBlocks.raised = [] := rfl

/-- R171, R172, R175: what a release leaves, the Supply Monitor taken as `u`. -/
theorem releaseHold_released (s : State) {u v : Supply} (kept : u = { v with standing := .clear }) :
    s.Released ((s.setSup u).releaseHold) v := by
  subst kept
  refine ⟨⟨rfl, rfl, rfl, rfl, rfl, rfl, rfl, rfl, rfl, rfl, rfl, rfl⟩, rfl, rfl, ?_⟩
  rcases v with ⟨sample, level, recovery, cause, count, standing, ⟨vlog, pin, cut⟩, awaiting⟩
  cases vlog <;> cases cut <;> rfl

/-! ### The commands of the Supply Monitor -/

/-- A command taken while the part is held that raises no event, in any state. -/
theorem exec_taken_quiet {c : Instr} {s : State} (taken : takenHeld c = true)
    (quiet : (effect c s).raised = []) : exec c s = .next (effect c s) := by
  rw [exec_of_takenHeld s taken, State.flush_of_nil quiet]

theorem vlogFall_of_lost {s : State} (lost : s.sup.standing.vlog = true) : s.vlogFall = s := by
  rw [State.vlogFall, lost, if_pos rfl]

theorem vlogFall_of_good {s : State} (good : s.sup.standing.vlog = false) :
    s.vlogFall = s.hold s.sup.vlogLost := by
  rw [State.vlogFall, good, if_neg Bool.false_ne_true]

theorem resetnLow_of_low {s : State} (low : s.sup.standing.pin = true) : s.resetnLow = s := by
  rw [State.resetnLow, low, if_pos rfl]

theorem resetnLow_of_high {s : State} (high : s.sup.standing.pin = false) :
    s.resetnLow = s.hold { s.sup with standing := { s.sup.standing with pin := true }
                                      noted := { s.sup.noted with pin := true } } := by
  rw [State.resetnLow, high, if_neg Bool.false_ne_true]

theorem resetnHigh_of_low {s : State} (low : s.sup.standing.pin = true) :
    s.resetnHigh = s.unhold { s.sup with standing := { s.sup.standing with pin := false } } := by
  rw [State.resetnHigh, low, if_pos rfl]

theorem resetnHigh_of_high {s : State} (high : s.sup.standing.pin = false) :
    s.resetnHigh = s := by
  rw [State.resetnHigh, high, if_neg Bool.false_ne_true]

theorem takeSupplySample_of_lost {s : State} (lost : s.sup.standing.vlog = true) (v : Nat) :
    s.takeSupplySample v = s := by
  rw [State.takeSupplySample, lost, if_pos rfl]

/-- R169: a sample below 17.0 V. -/
theorem takeSupplySample_of_cut {s : State} (good : s.sup.standing.vlog = false) {v : Nat}
    (low : v < 170) : s.takeSupplySample v = s.hold (s.sup.sampled v).cutBegun := by
  have whole : min 360 v = v := Nat.min_eq_right (by omega)
  rw [State.takeSupplySample, good, if_neg Bool.false_ne_true]
  dsimp only
  rw [whole]
  exact if_pos low

/-- R170: a sample of 17.0 V or more while the part is held. -/
theorem takeSupplySample_of_held {s : State} (good : s.sup.standing.vlog = false)
    (held : s.held = true) {v : Nat} (high : 170 ≤ v) :
    s.takeSupplySample v = s.unhold ((s.sup.sampled (min 360 v)).cutEnded (min 360 v)) := by
  have notCut : ¬ min 360 v < Config.cutEntry := by unfold Config.cutEntry; omega
  rw [State.takeSupplySample, good, if_neg Bool.false_ne_true]
  dsimp only
  rw [if_neg notCut, if_pos held]

/-- R167: a sample of 17.0 V or more while the part runs. -/
theorem takeSupplySample_of_running {s : State} (running : s.held = false) {v : Nat}
    (high : 170 ≤ v) :
    s.takeSupplySample v =
      (s.setSup (s.sup.sampled (min 360 v))).levelSample (min 360 v) := by
  have notCut : ¬ min 360 v < Config.cutEntry := by unfold Config.cutEntry; omega
  have good : s.sup.standing.vlog = false := by rw [((held_eq_false_iff s).mp running).1]
  rw [State.takeSupplySample, good, if_neg Bool.false_ne_true]
  dsimp only
  rw [if_neg notCut, running, if_neg Bool.false_ne_true]

/-- R169, R170: what a sample from 17.0 V on leaves of a standing cut. -/
theorem cutEnded_of_lt (u : Supply) {sample : Nat} (low : sample < 185) :
    u.cutEnded sample = u := if_neg (Nat.not_le.mpr low)

theorem cutEnded_of_le (u : Supply) {sample : Nat} (high : 185 ≤ sample) :
    u.cutEnded sample = { u with standing := { u.standing with cut := false } } := if_pos high

/-! ### The levels that are known while the part is held -/

theorem doorChange_of_held {s : State} (held : s.held = true) (active : Bool) :
    s.doorChange active = s.setZlp { s.zlp with doorActive := active } := by
  have same : (s.setZlp { s.zlp with doorActive := active }).held = true := held
  rw [State.doorChange]
  dsimp only
  rw [if_pos held]

theorem endStopActive_of_held {s : State} (held : s.held = true) :
    s.endStopActive = s.setDcc { s.dcc with
      damper := { s.dcc.damper with endStop := true } } := by
  rw [State.endStopActive]
  dsimp only
  rw [if_pos held]
  rfl

end Sys2Proof.Machine
end

section
/-! PROOF. The hold and the release of a restart. -/

namespace Sys2Proof.Machine

/-- What holds a running part, and what a held part takes in. -/
theorem exec_vlogFall_of_running {s : State} (running : s.held = false) :
    ∃ t, exec .vlogFall s = .next t ∧ s.AtRestart t ∧ t.cfg = .reset ∧ t.clock = s.clock ∧
      t.held = true ∧ t.sup = { s.sup with
        sample := none, recovery := none, cause := .none, cutCount := 0
        standing := ⟨true, false, false⟩, noted := { s.sup.noted with vlog := true } } := by
  obtain ⟨none, fresh⟩ := (held_eq_false_iff s).mp running
  have acts : effect .vlogFall s =
      (s.setSup { s.sup.vlogLost with recovery := .none }).restartBlocks :=
    (vlogFall_of_good (by rw [none])).trans (hold_of_running running _)
  refine ⟨_, exec_taken_quiet rfl (by rw [acts]; rfl), ?_⟩
  rw [acts]
  refine ⟨restartBlocks_atRestart s _, rfl, rfl, rfl, ?_⟩
  simp [Supply.vlogLost, none, fresh]

theorem exec_resetnLow_of_running {s : State} (running : s.held = false) :
    ∃ t, exec .resetnLow s = .next t ∧ s.AtRestart t ∧ t.cfg = .reset ∧ t.clock = s.clock ∧
      t.held = true ∧ t.sup = { s.sup with
        recovery := none, standing := ⟨false, true, false⟩
        noted := { s.sup.noted with pin := true } } := by
  obtain ⟨none, -⟩ := (held_eq_false_iff s).mp running
  have acts : effect .resetnLow s = (s.setSup { s.sup with
      recovery := .none, standing := ⟨false, true, false⟩
      noted := { s.sup.noted with pin := true } }).restartBlocks := by
    refine (resetnLow_of_high (by rw [none])).trans ((hold_of_running running _).trans ?_)
    rw [none]
  refine ⟨_, exec_taken_quiet rfl (by rw [acts]; rfl), ?_⟩
  rw [acts]
  exact ⟨restartBlocks_atRestart s _, rfl, rfl, rfl, rfl⟩

theorem exec_supplySample_of_running {s : State} (running : s.held = false) {v : Nat}
    (low : v < 170) :
    ∃ t, exec (.supplySample v) s = .next t ∧ s.AtRestart t ∧ t.cfg = .reset ∧
      t.clock = s.clock ∧ t.held = true ∧ t.sup = { s.sup with
        sample := some v, level := .cut, recovery := none, standing := ⟨false, false, true⟩
        noted := { s.sup.noted with cut := true } } := by
  obtain ⟨none, fresh⟩ := (held_eq_false_iff s).mp running
  have acts : effect (.supplySample v) s = (s.setSup { s.sup with
      sample := some v, level := .cut, recovery := .none, standing := ⟨false, false, true⟩
      noted := { s.sup.noted with cut := true } }).restartBlocks := by
    refine (takeSupplySample_of_cut (by rw [none]) low).trans
      ((hold_of_running running _).trans ?_)
    simp [Supply.cutBegun, Supply.sampled, none, fresh]
  refine ⟨_, exec_taken_quiet rfl (by rw [acts]; rfl), ?_⟩
  rw [acts]
  exact ⟨restartBlocks_atRestart s _, rfl, rfl, rfl, rfl⟩

/-- R170: a sample taken by a held part whose supply is good, short of a release. -/
theorem exec_supplySample_of_held {s : State} (held : s.held = true) (quiet : s.raised = [])
    (good : s.sup.standing.vlog = false) (v : Nat) :
    (v < 170 → exec (.supplySample v) s = .next (s.setSup { s.sup with
      sample := some v, awaiting := false, level := .cut, recovery := none
      standing := { s.sup.standing with cut := true }
      noted := { s.sup.noted with cut := true } })) ∧
    (170 ≤ v → v < 185 → s.sup.standing.cut = true ∨ s.sup.standing.pin = true →
      exec (.supplySample v) s =
        .next (s.setSup { s.sup with sample := some v, awaiting := false })) ∧
    (185 ≤ v → s.sup.standing.pin = true →
      exec (.supplySample v) s = .next (s.setSup { s.sup with
        sample := some (min 360 v), awaiting := false
        standing := { s.sup.standing with cut := false } })) := by
  have takes {u : Supply} (acts : s.takeSupplySample v = s.setSup u) :
      exec (.supplySample v) s = .next (s.setSup u) := by
    rw [exec_taken_quiet rfl]
    · exact congrArg _ acts
    · exact (congrArg State.raised acts).trans quiet
  refine ⟨fun low => takes ?_, fun least low stands => takes ?_, fun high pin => takes ?_⟩
  · rw [takeSupplySample_of_cut good low, hold_of_held held]
    rfl
  · have whole : min 360 v = v := Nat.min_eq_right (by omega)
    rw [takeSupplySample_of_held good held least, whole, cutEnded_of_lt _ low,
      unhold_of_holds]
    · rfl
    · obtain cut | pin := stands
      · simp [Supply.holds, Holds.any, Supply.sampled, cut]
      · simp [Supply.holds, Holds.any, Supply.sampled, pin]
  · have stays : 185 ≤ min 360 v := by omega
    rw [takeSupplySample_of_held good held (by omega), cutEnded_of_le _ stays, unhold_of_holds]
    · rfl
    · simp [Supply.holds, Holds.any, Supply.sampled, pin]

/-- Settles O12: the three holds of a running part, then the commands that a held part takes. -/
theorem partIsHeld : Obligations.PartIsHeld := by
  refine ⟨fun s running => ⟨exec_vlogFall_of_running running, exec_resetnLow_of_running running,
    fun v low => exec_supplySample_of_running running low⟩, fun s held quiet => ?_⟩
  have takes {c : Instr} {t : State} (taken : takenHeld c = true) (acts : effect c s = t)
      (none : t.raised = []) : exec c s = .next t := by
    rw [exec_taken_quiet taken (acts ▸ none), acts]
  refine ⟨takes rfl ?fall ?fallQuiet, takes rfl ?rise ?riseQuiet, takes rfl ?low ?lowQuiet,
    fun high => takes rfl (resetnHigh_of_high high) quiet, fun low stands => takes rfl ?high quiet,
    fun lost v => takes rfl (takeSupplySample_of_lost lost v) quiet,
    fun good v => exec_supplySample_of_held held quiet good v,
    fun active => takes rfl (doorChange_of_held held active) quiet,
    takes rfl (endStopActive_of_held held) quiet, fun c => ?others⟩
  case fall =>
    split
    next lost => exact vlogFall_of_lost lost
    next good =>
      exact (vlogFall_of_good (Bool.eq_false_of_not_eq_true good)).trans (hold_of_held held _)
  case fallQuiet => split <;> exact quiet
  case rise => rfl
  case riseQuiet => split <;> exact quiet
  case low =>
    split
    next low => exact resetnLow_of_low low
    next high =>
      exact (resetnLow_of_high (Bool.eq_false_of_not_eq_true high)).trans (hold_of_held held _)
  case lowQuiet => split <;> exact quiet
  case high =>
    refine (resetnHigh_of_low low).trans (unhold_of_holds ?_ s)
    rcases stands with vlog | cut | awaiting
    · simp [Supply.holds, Holds.any, vlog]
    · simp [Supply.holds, Holds.any, cut]
    · simp [Supply.holds, awaiting]
  case others =>
    intro notFall notRise notLow notHigh notEndStop notSample notDoor
    refine exec_of_held held ?_
    cases c with
    | vlogFall => exact absurd rfl notFall
    | vlogRise => exact absurd rfl notRise
    | resetnLow => exact absurd rfl notLow
    | resetnHigh => exact absurd rfl notHigh
    | dmpendActive => exact absurd rfl notEndStop
    | supplySample v => exact absurd rfl (notSample v)
    | doorInputChange active => exact absurd rfl (notDoor active)
    | _ => rfl

/-- R170, R171: the first sample from 17.0 V on, while it is all that the hold waits for. -/
theorem exec_firstSample {s : State} (none : s.sup.standing = ⟨false, false, false⟩)
    (awaiting : s.sup.awaiting = true) {v : Nat} (high : 170 ≤ v) :
    ∃ t, exec (.supplySample v) s = .next t ∧
      s.Released t { s.sup with sample := some (min 360 v), awaiting := false } := by
  have held : s.held = true := by simp [State.held, Supply.holds, awaiting]
  have ended : (s.sup.sampled (min 360 v)).cutEnded (min 360 v) =
      { s.sup with sample := some (min 360 v), awaiting := false, standing := .clear } := by
    unfold Supply.cutEnded Supply.sampled
    split <;> simp [none, Holds.clear]
  have acts : effect (.supplySample v) s = (s.setSup { s.sup with
      sample := some (min 360 v), awaiting := false, standing := .clear }).releaseHold := by
    refine (takeSupplySample_of_held (by rw [none]) held high).trans ?_
    rw [ended, unhold_of_released rfl]
  refine ⟨_, exec_taken_quiet rfl (by rw [acts]; rfl), ?_⟩
  rw [acts]
  exact releaseHold_released s rfl

/-- Settles O13: each of the three ends of the last hold. -/
theorem restartIsReleased : Obligations.RestartIsReleased := by
  intro s quiet
  refine ⟨fun lost v high => ?vlog, fun none awaiting v high => exec_firstSample none awaiting high,
    fun pin fresh => ?pin, fun cut v high => ?cut⟩
  case vlog =>
    have rises : effect .vlogRise s =
        s.setSup { s.sup with standing := ⟨false, false, false⟩, awaiting := true } := by
      show s.vlogRise = _
      rw [State.vlogRise, lost, if_pos rfl]
    obtain ⟨t, taken, released⟩ := exec_firstSample (s := effect .vlogRise s)
      (by rw [rises]; rfl) (by rw [rises]; rfl) high
    rw [rises] at released
    exact ⟨_, t, exec_taken_quiet rfl (by rw [rises]; exact quiet), by rw [rises]; rfl, taken,
      released⟩
  case pin =>
    have acts : effect .resetnHigh s = (s.setSup { s.sup with standing := .clear }).releaseHold := by
      refine (resetnHigh_of_low (by rw [pin])).trans ?_
      rw [pin]
      exact unhold_of_released (by simp [Supply.holds, Holds.any, fresh]) s
    refine ⟨_, exec_taken_quiet rfl (by rw [acts]; rfl), ?_⟩
    rw [acts]
    exact releaseHold_released s rfl
  case cut =>
    have held : s.held = true := by simp [State.held, Supply.holds, Holds.any, cut]
    have stays : 185 ≤ min 360 v := by omega
    have acts : effect (.supplySample v) s = (s.setSup { s.sup with
        sample := some (min 360 v), awaiting := false, standing := .clear }).releaseHold := by
      refine (takeSupplySample_of_held (by rw [cut]) held (by omega)).trans ?_
      rw [cutEnded_of_le _ stays]
      refine (unhold_of_released ?_ s).trans ?_
      · simp [Supply.holds, Holds.any, Supply.sampled, cut]
      · simp [Supply.sampled, cut, Holds.clear]
    refine ⟨_, exec_taken_quiet rfl (by rw [acts]; rfl), ?_⟩
    rw [acts]
    exact releaseHold_released s rfl

end Sys2Proof.Machine
end

section
/-! SUPPORT. What the commands of the Supply Monitor, its pins and the Configuration Reader can do, said once (R166 to R179). -/

namespace Sys2Proof.Machine

/-- What a command of the Supply Monitor or a pin comes to: the Supply Monitor alone moves, a restart begins or is released, or, in the running part, the level changes with its event and the shed flag follows. -/
inductive Monitored (s t : State) : Prop where
  | moved (u : Supply) (rest : t = s.setSup u) (runs : s.held = false → t.held = false)
  | restarted (u : Supply) (rest : t = (s.setSup u).restartBlocks)
  | released (u : Supply) (rest : t = (s.setSup u).releaseHold)
  | levelled (x : State) (b : Bool) (rest : x = (s.setSup x.sup).setRaised x.raised)
      (runs : x.held = false) (shed : t = x.setShed b)

theorem Monitored.refl (s : State) : Monitored s s := .moved s.sup rfl id

/-- A part that is held stays as it is but for the Supply Monitor. -/
theorem Monitored.ofHeld {s t : State} (held : s.held = true) (u : Supply)
    (rest : t = s.setSup u) : Monitored s t :=
  .moved u rest fun running => absurd running (by simp [held])

theorem hold_monitored (s : State) (u : Supply) : Monitored s (s.hold u) := by
  cases held : s.held with
  | false => exact .restarted _ (hold_of_running held u)
  | true => exact .ofHeld held u (hold_of_held held u)

theorem unhold_monitored {s : State} (held : s.held = true) (u : Supply) :
    Monitored s (s.unhold u) := by
  cases holds : u.holds with
  | false => exact .released u (unhold_of_released holds s)
  | true => exact .ofHeld held u (unhold_of_holds holds s)

/-- A running part whose Supply Monitor takes the same conditions runs on. -/
theorem running_of_conditions {s t : State} (running : s.held = false)
    (standing : t.sup.standing = s.sup.standing) (awaiting : t.sup.awaiting = false) :
    t.held = false :=
  (held_eq_false_iff t).mpr ⟨standing.trans ((held_eq_false_iff s).mp running).1, awaiting⟩

/-- R167: a sample of 17.0 V or more in the running part. -/
theorem levelSample_monitored {s : State} (running : s.held = false) (u : Supply)
    (standing : u.standing = s.sup.standing) (awaiting : u.awaiting = false) (sample : Nat) :
    Monitored s ((s.setSup u).levelSample sample) := by
  have runs : (s.setSup u).held = false := running_of_conditions running standing awaiting
  unfold State.levelSample
  split
  · split
    · unfold State.warn
      refine .levelled _ true ?_ ?_ rfl
      · dsimp only
        split <;> rfl
      · dsimp only
        split <;> exact running_of_conditions running standing awaiting
    · exact .moved u rfl fun _ => runs
  · unfold State.recoverySample
    split
    · exact .moved _ rfl fun _ => running_of_conditions running standing awaiting
    · split
      · exact .moved u rfl fun _ => runs
      · exact .moved _ rfl fun _ => running_of_conditions running standing awaiting
  · exact .moved u rfl fun _ => runs

theorem takeSupplySample_monitored (s : State) (v : Nat) :
    Monitored s (s.takeSupplySample v) := by
  unfold State.takeSupplySample
  split
  · exact .refl s
  · dsimp only
    split
    · exact hold_monitored s _
    · split
      next held => exact unhold_monitored held _
      next running =>
        exact levelSample_monitored (Bool.eq_false_of_not_eq_true running) (s.sup.sampled _) rfl rfl _

theorem recover_monitored {s : State} (running : s.held = false) : Monitored s s.recover := by
  have fresh := ((held_eq_false_iff s).mp running).2
  have runs {x : State} (standing : x.sup.standing = s.sup.standing)
      (awaiting : x.sup.awaiting = s.sup.awaiting) : x.held = false :=
    running_of_conditions running standing (awaiting.trans fresh)
  unfold State.recover
  split
  · exact .refl s
  · dsimp only
    split
    · refine .levelled _ false ?_ ?_ rfl
      · split <;> rfl
      · split <;> exact runs rfl rfl
    · exact .moved _ rfl fun _ => runs rfl rfl

/-- R166 to R172: what a command of the Supply Monitor or a pin can do. -/
theorem effect_monitored {c : Instr} (monitoring : monitors c = true) {s : State}
    (taken : s.held = true → takenHeld c = true) : Monitored s (effect c s) := by
  cases c with
  | vlogFall =>
    show Monitored s (if _ then _ else _)
    split
    · exact .refl s
    · exact hold_monitored s _
  | vlogRise =>
    show Monitored s (if _ then _ else _)
    split
    next lost => exact .ofHeld (by simp [State.held, Supply.holds, Holds.any, lost]) _ rfl
    next => exact .refl s
  | resetnLow =>
    show Monitored s (if _ then _ else _)
    split
    · exact .refl s
    · exact hold_monitored s _
  | resetnHigh =>
    show Monitored s (if _ then _ else _)
    split
    next low => exact unhold_monitored (by simp [State.held, Supply.holds, Holds.any, low]) _
    next => exact .refl s
  | supplySample v => exact takeSupplySample_monitored s v
  | recoveryTimerExpiry =>
    exact recover_monitored (Bool.eq_false_of_not_eq_true fun held =>
      Bool.false_ne_true (taken held))
  | _ => exact absurd monitoring Bool.false_ne_true

/-- What a command of the Configuration Reader comes to: the ready poll ends, the read fails while it is under way, or its block is handed on. -/
inductive ReadMove (s t : State) : Prop where
  | same (rest : t = s)
  | polled (phase : s.cfg.phase = .readyPoll) (rest : t = s.setCfg { s.cfg with phase := .transfer })
  | failed (reading : s.reading = true) (reason : FaultReason) (offset : Nat)
      (rest : t = s.failRead reason offset)
  | accepted (reading : s.reading = true) (b : List Byte) (good : firstBadField b = none)
      (rest : t = s.acceptBlock (imageOf b))

theorem reading_of_transfer {s : State} (transfer : s.cfg.phase = .transfer) :
    s.reading = true := by simp [State.reading, transfer]

/-- R175 to R179: what a command of the Configuration Reader can do. -/
theorem effect_readMove {c : Instr} (reader : reads c = true) (s : State) :
    ReadMove s (effect c s) := by
  cases c with
  | readyPollStatus b =>
    show ReadMove s (if _ then _ else _)
    split
    next poll => exact .polled poll.1 rfl
    next => exact .same rfl
  | configReadEnd b =>
    show ReadMove s (if _ then _ else _)
    split
    next ended =>
      have reading := reading_of_transfer ended.1
      unfold State.checkBlock
      split
      · exact .failed reading _ _ rfl
      split
      · exact .failed reading _ _ rfl
      split
      · exact .failed reading _ _ rfl
      next good => exact .accepted reading b good rfl
    next => exact .same rfl
  | configReadTimeout =>
    show ReadMove s s.readTimeout
    unfold State.readTimeout
    split
    · exact .same rfl
    next timer => exact .failed (by simp [State.reading, timer]) _ _ rfl
  | _ => exact absurd reader Bool.false_ne_true

/-- R179: the end of a good read leaves the FIFO and the lost count as they are until its events are entered. -/
theorem acceptBlock_svc (s : State) (img : Image) :
    (s.acceptBlock img).svc = { s.svc with mask := img.defaultMask } := by
  have taken : (s.takeImage img).svc = { s.svc with mask := img.defaultMask } := by
    have started (x : State) : x.startCapacity.svc = x.svc := (outer_startCapacity x).svc
    simp [State.takeImage, started]
  have warned : (s.takeImage img).deferredWarn.svc = (s.takeImage img).svc := by
    unfold State.deferredWarn
    split <;> rfl
  exact (outer_enterSettling _).svc.trans (warned.trans taken)

end Sys2Proof.Machine
end

section
/-! PROOF. The bound of the event FIFO and of the lost count. -/

namespace Sys2Proof.Machine

/-- R189: what is let through at the Service Line keeps the FIFO within its bounds; EVENTS only takes records out. -/
theorem obey_fits {s : State} (fits : s.svc.fits) (c : ServiceCommand) : (s.obey c).svc.fits := by
  cases c with
  | events =>
    have fewer : (s.svc.fifo.drop 4).length ≤ s.svc.fifo.length := by simp
    exact ⟨fewer.trans fits.1, Nat.zero_le _⟩
  | clearFault =>
    show s.clearFaults.svc.fits
    rw [(outer_clearFaults s).svc]
    exact fits
  | _ => exact fits

theorem Served.fits {s t : State} (served : Served s t) (fits : s.svc.fits) : t.svc.fits := by
  have port {x : State} (fits : x.svc.fits) (port : PortMove x t) : t.svc.fits := by
    unfold ServiceLine.fits
    rw [port.fifo, port.lost]
    exact fits
  cases served with
  | answered move => exact port fits move
  | obeyed c _ _ move => exact port (obey_fits fits c) move

theorem Monitored.fits {s t : State} (monitored : Monitored s t) (fits : s.svc.fits) :
    t.svc.fits := by
  cases monitored with
  | moved u rest => exact rest ▸ fits
  | restarted u rest => exact rest ▸ ⟨Nat.zero_le _, Nat.zero_le _⟩
  | released u rest => exact rest ▸ ⟨Nat.zero_le _, Nat.zero_le _⟩
  | levelled x b rest _ shed =>
    rw [shed, (setShed_notice x b).svc, rest]
    exact fits

theorem ReadMove.fits {s t : State} (move : ReadMove s t) (fits : s.svc.fits) : t.svc.fits := by
  cases move with
  | same rest => exact rest ▸ fits
  | polled _ rest => exact rest ▸ fits
  | failed _ reason offset rest => exact rest ▸ fits
  | accepted _ b _ rest =>
    rw [rest, acceptBlock_svc]
    exact fits

/-- R189: no command takes the FIFO or the lost count past its bound. -/
theorem effect_fits {c : Instr} {s : State} (taken : s.held = true → takenHeld c = true)
    (fits : s.svc.fits) : (effect c s).svc.fits := by
  cases monitor : monitors c with
  | true => exact (effect_monitored monitor taken).fits fits
  | false =>
    cases reader : reads c with
    | true => exact (effect_readMove reader s).fits fits
    | false =>
      cases service : serves c with
      | true => exact (effect_served service s).fits fits
      | false =>
        rw [(effect_outer monitor reader service s).svc]
        exact fits

/-- Settles O5: the FIFO and the lost count keep their bounds through every effect and through the entering of its events. -/
theorem eventsStayBounded : Obligations.EventsStayBounded := by
  intro s s' bounded next
  refine step_keeps (P := State.EventsBounded) (fun s cs h => h) (fun s h => h)
    (fun s h _ => h) (fun c s taken ⟨held, lost, _⟩ => ?_) bounded next
  obtain ⟨fifo, count⟩ := State.flush_fits (effect_fits taken ⟨held, lost⟩)
  exact ⟨fifo, count, rfl⟩

end Sys2Proof.Machine
end

section
/-! PROOF. The quiet of a held part. -/

namespace Sys2Proof.Machine

/-- R171: the outputs of a part at rest, apart from ATTN, which a hold releases by itself. -/
structure State.OutputsOff (s : State) : Prop where
  channel : ∀ ch, (s.dcc.channel ch).on = false
  motion : s.dcc.damper.motion ≠ .opening ∧ s.dcc.damper.motion ≠ .closing
  memory : s.cfg.phase.selects = false
  link : s.lnk.state = .off
  wire : s.lnk.wire = none
  answer : s.svc.answer = none

/-- A held part is quiet exactly when its outputs are off. -/
theorem quietWhileHeld_iff (s : State) :
    s.QuietWhileHeld ↔ (s.held = true → s.OutputsOff) := by
  refine forall_congr' fun held => ⟨fun ⟨pins, link, wire, answer⟩ => ?_, fun off => ?_⟩
  · simp only [State.pins, Pins.mk.injEq, decide_eq_false_iff_not] at pins
    obtain ⟨blower, heat, cool, opening, closing, -, memory, -, -⟩ := pins
    exact ⟨fun ch => by cases ch <;> assumption, ⟨opening, closing⟩, memory, link, wire, answer⟩
  · obtain ⟨channel, ⟨opening, closing⟩, memory, link, wire, answer⟩ := off
    have blower : s.dcc.blower.on = false := channel .blower
    have heat : s.dcc.heat.on = false := channel .heatValve
    have cool : s.dcc.cool.on = false := channel .coolValve
    refine ⟨?_, link, wire, answer⟩
    simp [State.pins, blower, heat, cool, opening, closing, held, memory, ReadPhase.lineLevel]

/-- R171: every output is off after a restart. -/
theorem restartBlocks_off (s : State) : s.restartBlocks.OutputsOff where
  channel ch := by cases ch <;> rfl
  motion := ⟨nofun, nofun⟩
  memory := rfl
  link := rfl
  wire := rfl
  answer := rfl

theorem releaseHold_off (s : State) : s.releaseHold.OutputsOff where
  channel ch := by cases ch <;> rfl
  motion := ⟨nofun, nofun⟩
  memory := rfl
  link := rfl
  wire := rfl
  answer := rfl

theorem State.OutputsOff.setSup {s : State} (off : s.OutputsOff) (u : Supply) :
    (s.setSup u).OutputsOff := ⟨off.1, off.2, off.3, off.4, off.5, off.6⟩

/-- Entering events drives no output. -/
theorem State.OutputsOff.flush {s : State} (off : s.OutputsOff) : s.flush.OutputsOff where
  channel := off.channel
  motion := off.motion
  memory := off.memory
  link := off.link
  wire := off.wire
  answer := by rw [flush_port s]; exact off.answer

theorem Monitored.quiet {s t : State} (monitored : Monitored s t)
    (quiet : s.held = true → s.OutputsOff) : t.held = true → t.OutputsOff := by
  intro held
  cases monitored with
  | moved u rest runs =>
    have was : s.held = true := by
      by_contra running
      simp [runs (Bool.eq_false_of_not_eq_true running)] at held
    exact rest ▸ (quiet was).setSup u
  | restarted u rest => exact rest ▸ restartBlocks_off _
  | released u rest => exact rest ▸ releaseHold_off _
  | levelled x b _ runs shed =>
    rw [shed, held_congr (setShed_notice x b).sup, runs] at held
    exact absurd held Bool.false_ne_true

/-- Reading the block and serving the Service Line hold no part. -/
theorem ReadMove.held {s t : State} (move : ReadMove s t) : t.held = s.held := by
  cases move with
  | same rest => exact held_congr (rest ▸ rfl)
  | polled _ rest => exact held_congr (rest ▸ rfl)
  | failed _ reason offset rest => exact held_congr (rest ▸ rfl)
  | accepted _ b _ rest =>
    refine held_congr ?_
    have taken : (s.takeImage (imageOf b)).sup = s.sup := (outer_startCapacity _).sup
    have warned : (s.takeImage (imageOf b)).deferredWarn.sup = (s.takeImage (imageOf b)).sup := by
      unfold State.deferredWarn
      split <;> rfl
    rw [rest]
    exact (outer_enterSettling _).sup.trans (warned.trans taken)

theorem Served.held {s t : State} (served : Served s t) : t.held = s.held := by
  cases served with
  | answered port => exact held_congr (port.rest ▸ rfl)
  | obeyed c _ _ port =>
    have obeyed : (s.obey c).held = s.held := by
      cases c with
      | clearFault => exact held_congr (outer_clearFaults s).sup
      | _ => rfl
    rw [← obeyed]
    exact held_congr (port.rest ▸ rfl)

/-- R171: a command that a held part takes, and one that holds a running part, leave the outputs off. -/
theorem effect_quiet {c : Instr} {s : State} (taken : s.held = true → takenHeld c = true)
    (quiet : s.held = true → s.OutputsOff) :
    (effect c s).held = true → (effect c s).OutputsOff := by
  intro held
  cases monitor : monitors c with
  | true => exact (effect_monitored monitor taken).quiet quiet held
  | false =>
    have was : (effect c s).held = s.held := by
      cases reader : reads c with
      | true => exact (effect_readMove reader s).held
      | false =>
        cases service : serves c with
        | true => exact (effect_served service s).held
        | false => exact held_congr (effect_outer monitor reader service s).sup
    rw [was] at held
    obtain ⟨channel, motion, memory, link, wire, answer⟩ := quiet held
    have known := taken held
    cases c with
    | doorInputChange active =>
      rw [show effect (.doorInputChange active) s = _ from doorChange_of_held held active]
      exact ⟨channel, motion, memory, link, wire, answer⟩
    | dmpendActive =>
      rw [show effect .dmpendActive s = _ from endStopActive_of_held held]
      exact ⟨channel, motion, memory, link, wire, answer⟩
    | vlogFall | vlogRise | resetnLow | resetnHigh | supplySample v =>
      cases monitor
    | _ => exact absurd known Bool.false_ne_true

/-- Settles O9: outputs that are off stay off while the hold lasts, and a part comes to be held by a restart only. -/
theorem heldPartStaysQuiet : Obligations.HeldPartStaysQuiet := by
  intro s s' quiet next
  rw [quietWhileHeld_iff] at quiet ⊢
  refine step_keeps (P := fun s => s.held = true → s.OutputsOff)
    (fun s cs h held => ?_) (fun s h held => ?_) (fun s h running held => ?_)
    (fun c s taken h held => ?_) quiet next
  · exact ⟨(h held).1, (h held).2, (h held).3, (h held).4, (h held).5, (h held).6⟩
  · exact ⟨(h held).1, (h held).2, (h held).3, (h held).4, (h held).5, (h held).6⟩
  · have same : s.tick.held = s.held := held_congr rfl
    rw [same, running] at held
    exact absurd held Bool.false_ne_true
  · rw [held_congr (State.flush_sup _)] at held
    exact (effect_quiet taken h held).flush

end Sys2Proof.Machine
end

section
/-! SUPPORT. The list facts of the Share Table: the candidate an eviction takes (R12), places by address (R4), and sums of shares (R17, R18). -/

namespace Sys2Proof.Machine

/-- R12: an eviction candidate is unpinned and holds no draw. -/
theorem Entry.evictable_iff (e : Entry) :
    e.evictable = true ↔ e.pinned = false ∧ e.committed = .all 0 := by
  simp [Entry.evictable]

/-- R12: nothing is evicted exactly where there is no candidate. -/
theorem evictFrom_eq_none {es : List Entry} :
    evictFrom es = none ↔ ∀ e ∈ es, ¬ e.evictable = true := by
  induction es with
  | nil => simp [evictFrom]
  | cons x es ih =>
    rw [List.forall_mem_cons, ← ih, evictFrom]
    cases evictFrom es with
    | some es' => simp
    | none => simp

/-- R12: the entry evicted is a candidate, and no candidate stands behind it. -/
theorem evictFrom_eq_some {es es' : List Entry} (evicted : evictFrom es = some es') :
    ∃ before e after, es = before ++ e :: after ∧ es' = before ++ after ∧ e.evictable = true ∧
      ∀ x ∈ after, ¬ x.evictable = true := by
  induction es generalizing es' with
  | nil => cases evicted
  | cons x es ih =>
    rw [evictFrom] at evicted
    cases behind : evictFrom es with
    | some rest =>
      rw [behind] at evicted
      obtain ⟨before, e, after, whole, left, candidate, last⟩ := ih behind
      refine ⟨x :: before, e, after, by rw [whole]; rfl, ?_, candidate, last⟩
      rw [← Option.some.inj evicted, left]
      rfl
    | none =>
      rw [behind] at evicted
      obtain ⟨candidate, rest⟩ := Option.ite_none_right_eq_some.mp evicted
      exact ⟨[], x, es, rfl, (Option.some.inj rest).symm, candidate,
        evictFrom_eq_none.mp behind⟩

/-- An eviction takes one entry out and leaves the others in their order. -/
theorem evictFrom_sublist {es es' : List Entry} (evicted : evictFrom es = some es') :
    es'.Sublist es ∧ es'.length + 1 = es.length := by
  obtain ⟨before, e, after, rfl, rfl, -, -⟩ := evictFrom_eq_some evicted
  refine ⟨List.Sublist.append_left (List.sublist_cons_self e after) before, ?_⟩
  simp only [List.length_append, List.length_cons]
  omega

/-- The entries of other addresses, in their order. -/
theorem dropAddress_sublist (es : List Entry) (a : Nat) : (dropAddress es a).Sublist es :=
  List.filter_sublist

theorem not_mem_dropAddress (es : List Entry) (a : Nat) :
    a ∉ (dropAddress es a).map (·.address) := by
  simp [dropAddress]

/-- Where each address stands once, the entry of an address and the entries of the others are all there is. -/
theorem perm_dropAddress {es : List Entry} {a : Nat} {e : Entry}
    (once : (es.map (·.address)).Nodup) (found : es.find? (fun e => e.address == a) = some e) :
    es.Perm (e :: dropAddress es a) := by
  induction es with
  | nil => cases found
  | cons x es ih =>
    rw [List.map_cons, List.nodup_cons] at once
    rw [List.find?_cons] at found
    by_cases here : x.address = a
    · have only : dropAddress es a = es := by
        refine List.filter_eq_self.mpr fun y hy => ?_
        have other : y.address ≠ a := fun same =>
          once.1 (here ▸ same ▸ List.mem_map_of_mem hy)
        simpa using other
      have head : x = e := by simpa [here] using found
      rw [← head, dropAddress, List.filter_cons_of_neg (by simp [here])]
      exact List.Perm.of_eq (congrArg (x :: ·) only.symm)
    · have there : es.find? (fun e => e.address == a) = some e := by
        rw [beq_false_of_ne here] at found
        exact found
      rw [dropAddress, List.filter_cons_of_pos (by simpa using here)]
      exact ((ih once.2 there).cons x).trans (List.Perm.swap e x _)

/-- A sum of quotients by one divisor is at most the quotient of the sum. -/
theorem sum_map_div_le {α : Type} (f : α → Nat) (w : Nat) (xs : List α) :
    (xs.map fun x => f x / w).sum ≤ (xs.map f).sum / w := by
  induction xs with
  | nil => exact Nat.zero_le _
  | cons x xs ih =>
    rw [List.map_cons, List.map_cons, List.sum_cons, List.sum_cons]
    exact (Nat.add_le_add_left ih _).trans Nat.div_add_div_le_add_div

end Sys2Proof.Machine
end

section
/-! PROOF. Eviction from a full table, and the sum of the fair shares. -/

namespace Sys2Proof.Machine

/-- Settles O26. -/
theorem evictionTakesTheTail : Obligations.EvictionTakesTheTail := by
  intro es
  refine ⟨?_, fun es' evicted => ?_⟩
  · simp only [evictFrom_eq_none, Entry.evictable_iff]
  · obtain ⟨before, e, after, whole, left, candidate, last⟩ := evictFrom_eq_some evicted
    obtain ⟨unpinned, noDraw⟩ := e.evictable_iff.mp candidate
    exact ⟨before, e, after, whole, left, unpinned, noDraw,
      fun x hx candidate => last x hx (x.evictable_iff.mpr candidate)⟩

/-- Settles O27: the shares sum to at most the share of the whole weight sum. -/
theorem fairSharesFit : Obligations.FairSharesFit := by
  intro t capacity
  calc (t.counted.map fun e => fairShare capacity e.weightOr1 t.weightSum).sum
      ≤ (t.counted.map fun e => capacity * e.weightOr1).sum / t.weightSum := sum_map_div_le ..
    _ = capacity * t.weightSum / t.weightSum := by
      rw [List.sum_map_mul_left]; rfl
    _ ≤ capacity := Nat.div_le_of_le_mul (Nat.le_of_eq (Nat.mul_comm _ _))

end Sys2Proof.Machine
end

section
/-! SUPPORT. What one relation between two states keeps of the bounds on table, confinement counters, duties, overdraw flags and caps, and the changes that keep all of them: those outside what the bounds read, the notices of a change, and the changes of station and channels. -/

namespace Sys2Proof.Machine

/-! ### The bounds apart from the read of the block -/

/-- R84, R85: what `Confined` says of the counters. -/
def State.CountsBounded (s : State) : Prop :=
  s.lnk.txVoid < 16 ∧ s.lnk.rxFault < 16 ∧
    (s.mbr.station.drives = false → s.lnk.txVoid = 0 ∧ s.lnk.rxFault = 0)

/-- R145, R149: what `DutiesBounded` says of the channels. -/
def State.ChannelsBounded (s : State) : Prop :=
  ∀ ch, (s.dcc.channel ch).WithinCap ∧ (s.follows ch = false → (s.dcc.channel ch).Quiet)

/-- R141: what `CapsWithinDraw` says of the caps. -/
def State.CapsBelowDraw (s : State) : Prop :=
  ∀ img e, s.cfg.image = some img → s.stb.self = some e →
    s.dcc.blower.cap ≤ e.committed.power * 1000 / img.blowerFull ∧
    s.dcc.heat.cap ≤ e.committed.heat * 1000 / img.heatRating ∧
    s.dcc.cool.cap ≤ e.committed.cool * 1000 / img.coolRating

/-- The duties and the cap of a channel, without its output and its period. -/
def Channel.amounts (c : Channel) : Nat × Nat × Nat := (c.cap, c.active, c.buffered)

theorem withinCap_congr {c d : Channel} (same : d.amounts = c.amounts) :
    d.WithinCap ↔ c.WithinCap := by
  simp only [Channel.amounts, Prod.mk.injEq] at same
  obtain ⟨cap, active, buffered⟩ := same
  rw [Channel.WithinCap, Channel.WithinCap, cap, active, buffered]

theorem quiet_congr {c d : Channel} (same : d.amounts = c.amounts) : d.Quiet ↔ c.Quiet := by
  simp only [Channel.amounts, Prod.mk.injEq] at same
  obtain ⟨-, active, buffered⟩ := same
  rw [Channel.Quiet, Channel.Quiet, active, buffered]

/-- Whether a channel follows its caps is told by the station state and the blower's condition. -/
theorem follows_congr {s t : State} (station : t.mbr.station = s.mbr.station)
    (condition : t.dcc.fan.condition = s.dcc.fan.condition) (ch : DutyChannel) :
    t.follows ch = s.follows ch := by
  cases ch <;> simp only [State.follows, station, condition]

/-- R17: a total is told by the own draw and the recency order. -/
theorem total_congr {t u : ShareTable}
    (drawn : u.self.map (·.committed) = t.self.map (·.committed)) (order : u.order = t.order)
    (r : Resource) : u.total r = t.total r := by
  have own (x : ShareTable) : (x.self.toList.map fun e => e.committed.get r) =
      ((x.self.map (·.committed)).toList.map fun c => c.get r) := by
    cases x.self <;> rfl
  simp only [ShareTable.total, ShareTable.counted, List.map_append, own, drawn, order]

/-! ### Changes outside what the bounds read -/

/-- `t` and `s` agree in what the bounds read outside the table, the records and the overdraw flags. -/
structure SameOutside (s t : State) : Prop where
  cfg : t.cfg = s.cfg
  station : t.mbr.station = s.mbr.station
  txVoid : t.lnk.txVoid = s.lnk.txVoid
  rxFault : t.lnk.rxFault = s.lnk.rxFault
  amounts : ∀ ch, (t.dcc.channel ch).amounts = (s.dcc.channel ch).amounts
  condition : t.dcc.fan.condition = s.dcc.fan.condition

/-- `t` and `s` agree in all that the bounds read. -/
structure SameBounds (s t : State) : Prop extends SameOutside s t where
  order : t.stb.order = s.stb.order
  drawn : t.stb.self.map (·.committed) = s.stb.self.map (·.committed)
  capacity : ∀ r, (t.csr.capacity.get r).value = (s.csr.capacity.get r).value
  overdraw : t.cjg.overdraw = s.cjg.overdraw

theorem SameOutside.refl (s : State) : SameOutside s s := ⟨rfl, rfl, rfl, rfl, fun _ => rfl, rfl⟩

theorem SameOutside.trans {s t u : State} (h : SameOutside s t) (k : SameOutside t u) :
    SameOutside s u :=
  ⟨k.cfg.trans h.cfg, k.station.trans h.station, k.txVoid.trans h.txVoid,
    k.rxFault.trans h.rxFault, fun ch => (k.amounts ch).trans (h.amounts ch),
    k.condition.trans h.condition⟩

theorem SameBounds.refl (s : State) : SameBounds s s :=
  ⟨.refl s, rfl, rfl, fun _ => rfl, rfl⟩

theorem SameBounds.trans {s t u : State} (h : SameBounds s t) (k : SameBounds t u) :
    SameBounds s u :=
  ⟨h.toSameOutside.trans k.toSameOutside, k.order.trans h.order, k.drawn.trans h.drawn,
    fun r => (k.capacity r).trans (h.capacity r), k.overdraw.trans h.overdraw⟩

theorem SameBounds.ite {s t u : State} {p : Prop} [Decidable p] (h : SameBounds s t)
    (k : SameBounds s u) : SameBounds s (if p then t else u) := by split <;> assumption

theorem SameOutside.channels {s t : State} (h : SameOutside s t) :
    s.ChannelsBounded → t.ChannelsBounded := fun bounded ch => by
  rw [withinCap_congr (h.amounts ch), quiet_congr (h.amounts ch),
    follows_congr h.station h.condition]
  exact bounded ch

theorem SameOutside.counts {s t : State} (h : SameOutside s t) :
    s.CountsBounded → t.CountsBounded := by
  rw [State.CountsBounded, State.CountsBounded, h.station, h.txVoid, h.rxFault]
  exact id

/-- R141: the caps stand where they, the image and the own draw stand. -/
theorem capsBelowDraw_congr {s t : State} (cfg : t.cfg = s.cfg)
    (amounts : ∀ ch, (t.dcc.channel ch).cap = (s.dcc.channel ch).cap)
    (drawn : t.stb.self.map (·.committed) = s.stb.self.map (·.committed))
    (below : s.CapsBelowDraw) : t.CapsBelowDraw := by
  intro img e image self
  obtain ⟨e', self', same⟩ : ∃ e', s.stb.self = some e' ∧ e'.committed = e.committed := by
    rw [self] at drawn
    exact Option.map_eq_some_iff.mp drawn.symm
  have blower : t.dcc.blower.cap = s.dcc.blower.cap := amounts .blower
  have heat : t.dcc.heat.cap = s.dcc.heat.cap := amounts .heatValve
  have cool : t.dcc.cool.cap = s.dcc.cool.cap := amounts .coolValve
  rw [blower, heat, cool, ← same]
  exact below img e' (cfg ▸ image) self'

theorem SameOutside.caps {s t : State} (h : SameOutside s t)
    (drawn : t.stb.self.map (·.committed) = s.stb.self.map (·.committed)) :
    s.CapsBelowDraw → t.CapsBelowDraw :=
  capsBelowDraw_congr h.cfg (fun ch => congrArg Prod.fst (h.amounts ch)) drawn

/-! ### What a change keeps -/

/-- The change keeps the bounds on duties and caps. -/
structure KeepsChannels (s t : State) : Prop where
  channels : s.ChannelsBounded → t.ChannelsBounded
  caps : s.CapsBelowDraw → t.CapsBelowDraw

/-- The change keeps the image and every bound. -/
structure Keeps (s t : State) : Prop extends KeepsChannels s t where
  cfg : t.cfg = s.cfg
  table : s.TableBounded → t.TableBounded
  counts : s.CountsBounded → t.CountsBounded
  agrees : s.TableBounded → s.OverdrawAgrees → t.OverdrawAgrees

theorem KeepsChannels.refl (s : State) : KeepsChannels s s := ⟨id, id⟩

theorem KeepsChannels.trans {s t u : State} (h : KeepsChannels s t) (k : KeepsChannels t u) :
    KeepsChannels s u := ⟨k.channels ∘ h.channels, k.caps ∘ h.caps⟩

theorem Keeps.refl (s : State) : Keeps s s := ⟨.refl s, rfl, id, id, fun _ => id⟩

theorem Keeps.trans {s t u : State} (h : Keeps s t) (k : Keeps t u) : Keeps s u :=
  ⟨h.toKeepsChannels.trans k.toKeepsChannels, k.cfg.trans h.cfg, k.table ∘ h.table,
    k.counts ∘ h.counts, fun bounded agrees => k.agrees (h.table bounded) (h.agrees bounded agrees)⟩

theorem Keeps.ite {s t u : State} {p : Prop} [Decidable p] (h : Keeps s t) (k : Keeps s u) :
    Keeps s (if p then t else u) := by split <;> assumption

/-- The table stays bounded where its order and the image stand. -/
theorem tableBounded_congr {s t : State} (cfg : t.cfg = s.cfg) (order : t.stb.order = s.stb.order) :
    s.TableBounded → t.TableBounded := by
  rw [State.TableBounded, State.TableBounded, cfg, order]
  exact id

/-- The flags agree where they, the totals and the capacities stand. -/
theorem agrees_congr {s t : State} (overdraw : t.cjg.overdraw = s.cjg.overdraw)
    (total : ∀ r, t.stb.total r = s.stb.total r)
    (capacity : ∀ r, (t.csr.capacity.get r).value = (s.csr.capacity.get r).value) :
    s.OverdrawAgrees → t.OverdrawAgrees := fun agrees r => by
  rw [overdraw, total, capacity]
  exact agrees r

theorem SameBounds.agrees {s t : State} (h : SameBounds s t) :
    s.OverdrawAgrees → t.OverdrawAgrees :=
  agrees_congr h.overdraw (total_congr h.drawn h.order) h.capacity

theorem SameBounds.keeps {s t : State} (h : SameBounds s t) : Keeps s t where
  channels := h.channels
  caps := h.toSameOutside.caps h.drawn
  cfg := h.cfg
  table := tableBounded_congr h.cfg h.order
  counts := h.counts
  agrees _ := h.agrees

/-! ### Block updates -/

theorem same_setTxq (s : State) (x : TransmitQueue) : SameBounds s (s.setTxq x) :=
  ⟨⟨rfl, rfl, rfl, rfl, fun _ => rfl, rfl⟩, rfl, rfl, fun _ => rfl, rfl⟩
theorem same_setZlp (s : State) (x : ZoneLoop) : SameBounds s (s.setZlp x) :=
  ⟨⟨rfl, rfl, rfl, rfl, fun _ => rfl, rfl⟩, rfl, rfl, fun _ => rfl, rfl⟩
theorem same_setSvc (s : State) (x : ServiceLine) : SameBounds s (s.setSvc x) :=
  ⟨⟨rfl, rfl, rfl, rfl, fun _ => rfl, rfl⟩, rfl, rfl, fun _ => rfl, rfl⟩
theorem same_setSup (s : State) (x : Supply) : SameBounds s (s.setSup x) :=
  ⟨⟨rfl, rfl, rfl, rfl, fun _ => rfl, rfl⟩, rfl, rfl, fun _ => rfl, rfl⟩
theorem same_setRaised (s : State) (x : List Raised) : SameBounds s (s.setRaised x) :=
  ⟨⟨rfl, rfl, rfl, rfl, fun _ => rfl, rfl⟩, rfl, rfl, fun _ => rfl, rfl⟩
theorem same_raise (s : State) (o : Origin) (k : EventKind) (p : Option Nat)
    (r : Option Resource) (v : Option Nat) : SameBounds s (s.raise o k p r v) :=
  ⟨⟨rfl, rfl, rfl, rfl, fun _ => rfl, rfl⟩, rfl, rfl, fun _ => rfl, rfl⟩
theorem same_drawn (s : State) : SameBounds s s.drawn :=
  ⟨⟨rfl, rfl, rfl, rfl, fun _ => rfl, rfl⟩, rfl, rfl, fun _ => rfl, rfl⟩
theorem same_flush (s : State) : SameBounds s s.flush :=
  ⟨⟨rfl, rfl, rfl, rfl, fun _ => rfl, rfl⟩, rfl, rfl, fun _ => rfl, rfl⟩
theorem same_ask (s : State) (i : Intent) : SameBounds s (s.ask i) :=
  ⟨⟨rfl, rfl, rfl, rfl, fun _ => rfl, rfl⟩, rfl, rfl, fun _ => rfl, rfl⟩

theorem same_setLnk (s : State) (x : Link) (txVoid : x.txVoid = s.lnk.txVoid := by rfl)
    (rxFault : x.rxFault = s.lnk.rxFault := by rfl) : SameBounds s (s.setLnk x) :=
  ⟨⟨rfl, rfl, txVoid, rxFault, fun _ => rfl, rfl⟩, rfl, rfl, fun _ => rfl, rfl⟩

theorem same_setMbr (s : State) (x : Membership)
    (station : x.station = s.mbr.station := by rfl) :
    SameBounds s (s.setMbr x) :=
  ⟨⟨rfl, station, rfl, rfl, fun _ => rfl, rfl⟩, rfl, rfl, fun _ => rfl, rfl⟩

theorem same_setCjg (s : State) (x : ClaimJudge)
    (overdraw : x.overdraw = s.cjg.overdraw := by rfl) :
    SameBounds s (s.setCjg x) :=
  ⟨⟨rfl, rfl, rfl, rfl, fun _ => rfl, rfl⟩, rfl, rfl, fun _ => rfl, overdraw⟩

theorem same_setCsr (s : State) (x : Records)
    (capacity : ∀ r, (x.capacity.get r).value = (s.csr.capacity.get r).value := by exact fun _ => rfl) :
    SameBounds s (s.setCsr x) :=
  ⟨⟨rfl, rfl, rfl, rfl, fun _ => rfl, rfl⟩, rfl, rfl, capacity, rfl⟩

theorem same_changeDamper (s : State) (f : Damper → Damper) : SameBounds s (s.changeDamper f) :=
  ⟨⟨rfl, rfl, rfl, rfl, fun ch => by cases ch <;> rfl, rfl⟩, rfl, rfl, fun _ => rfl, rfl⟩

theorem same_bump (s : State) (i : CounterId) : SameBounds s (s.bump i) :=
  SameBounds.ite (same_setLnk s _) (.refl s)

theorem same_mapSelf (s : State) (f : Entry → Entry)
    (draw : ∀ e, (f e).committed = e.committed := by exact fun _ => rfl) :
    SameBounds s (s.mapSelf f) := by
  refine ⟨⟨rfl, rfl, rfl, rfl, fun _ => rfl, rfl⟩, rfl, ?_, fun _ => rfl, rfl⟩
  show (s.stb.self.map f).map (·.committed) = _
  rw [Option.map_map]
  exact congrArg (fun g => Option.map g s.stb.self) (funext draw)

theorem same_setTarget (s : State) (r : Resource) (t : Option Nat) :
    SameBounds s (s.setTarget r t) := same_setCjg s _

theorem same_forceRelease (s : State) (r : Resource) (t : Nat) :
    SameBounds s (s.forceRelease r t) := by
  unfold State.forceRelease
  split
  · exact .refl s
  · exact (same_ask s _).ite (.refl s)

/-! ### Caps -/

theorem dutyOf_le (ch : DutyChannel) (cap : Nat) : dutyOf ch cap ≤ cap := by
  cases ch with
  | blower => exact Nat.le_refl cap
  | heatValve => exact Nat.le_refl cap
  | coolValve => exact (effectiveOn_le cap).1

@[simp] theorem channel_rewatch (d : Drives) (was : Bool) (k : Nat) (ch : DutyChannel) :
    (d.rewatch was k).channel ch = d.channel ch := by
  unfold Drives.rewatch
  split
  · split
    · rfl
    · cases ch <;> rfl
  · cases ch <;> rfl

/-- The cap computed for a channel. -/
def Caps.of (c : Caps) : DutyChannel → Nat
  | .blower => c.blower
  | .heatValve => c.heat
  | .coolValve => c.cool

/-- R143: each channel after the caps are pushed. -/
theorem channel_pushCaps (s : State) (c : Caps) (ch : DutyChannel) :
    (s.pushCaps c).dcc.channel ch =
      (s.dcc.pushCap ch (c.of ch) (s.follows ch) s.clock).channel ch := by
  show ((Drives.rewatch _ _ _).channel ch) = _
  rw [channel_rewatch]
  have onto {d e : Drives} (same : d.channel ch = e.channel ch) (cap : Nat) (b : Bool) (k : Nat) :
      (d.pushCap ch cap b k).channel ch = (e.pushCap ch cap b k).channel ch := by
    rw [channel_pushCap, channel_pushCap, same]
  cases ch with
  | blower =>
    rw [channel_pushCap_other _ _ _ _ (by decide), channel_pushCap_other _ _ _ _ (by decide)]
    rfl
  | heatValve =>
    rw [channel_pushCap_other _ _ _ _ (by decide)]
    exact onto (channel_pushCap_other _ _ _ _ (by decide)) _ _ _
  | coolValve =>
    refine onto ?_ _ _ _
    rw [channel_pushCap_other _ _ _ _ (by decide), channel_pushCap_other _ _ _ _ (by decide)]

/-- A pushed cap is the channel's cap from then on. -/
theorem cap_pushCaps (s : State) (c : Caps) (ch : DutyChannel) :
    ((s.pushCaps c).dcc.channel ch).cap = c.of ch := by
  rw [channel_pushCaps, channel_pushCap]
  dsimp only
  split
  · rfl
  · split
    next zero => exact zero.symm
    next => split <;> rfl

/-- R145: a pushed cap leaves the duties of its channel within it, and a channel held off at 0. -/
theorem channel_pushCap_bounded {d : Drives} {ch : DutyChannel} {follows : Bool}
    (bounded : (d.channel ch).WithinCap ∧ (follows = false → (d.channel ch).Quiet))
    (cap k : Nat) :
    ((d.pushCap ch cap follows k).channel ch).WithinCap ∧
      (follows = false → ((d.pushCap ch cap follows k).channel ch).Quiet) := by
  rw [channel_pushCap]
  dsimp only
  have duty := dutyOf_le ch cap
  cases follows with
  | false =>
    obtain ⟨active, buffered⟩ := bounded.2 rfl
    rw [if_pos rfl]
    exact ⟨⟨active ▸ Nat.zero_le _, buffered ▸ Nat.zero_le _⟩, fun _ => ⟨active, buffered⟩⟩
  | true =>
    rw [if_neg (by decide)]
    refine ⟨?_, nofun⟩
    split
    · exact ⟨Nat.zero_le _, Nat.zero_le _⟩
    · split
      · exact ⟨duty, duty⟩
      next most => exact ⟨(Nat.not_lt.mp most).trans duty, duty⟩

theorem pushCaps_channels (s : State) (c : Caps) : s.ChannelsBounded → (s.pushCaps c).ChannelsBounded := by
  intro bounded ch
  rw [channel_pushCaps,
    follows_congr (t := s.pushCaps c) (s := s) rfl (pushCaps_notice s c).condition]
  exact channel_pushCap_bounded (bounded ch) _ _

theorem same_evalInterlock (s : State) (img : Image) (e : Entry) :
    SameBounds s (s.evalInterlock img e) := by
  unfold State.evalInterlock
  split
  · have stands : SameBounds s ((s.setZlp { s.zlp with interlock := true }).mapSelf
        Entry.withoutValves) := (same_setZlp s _).trans (same_mapSelf _ _)
    exact ((stands.trans (same_forceRelease _ _ _)).trans (same_forceRelease _ _ _)).ite stands
  · exact same_setZlp s _

/-- R141: a release target never raises an amount. -/
theorem belowTarget_le (target : Option Nat) (amount : Nat) : belowTarget target amount ≤ amount := by
  cases target with
  | none => exact Nat.le_refl amount
  | some t => exact Nat.min_le_left amount t

theorem heldDraw_le (s : State) (e : Entry) (r : Resource) : s.heldDraw e r ≤ e.committed.get r :=
  (belowTarget_le _ _).trans (Nat.min_le_right _ _)

/-- A share in ‰ grows with its amount. -/
theorem permille_mono {a b : Nat} (le : a ≤ b) (rating : Nat) : a * 1000 / rating ≤ b * 1000 / rating :=
  Nat.div_le_div_right (Nat.mul_le_mul_right 1000 le)

/-- R141: no computed cap allows more than the own committed draw. -/
theorem caps_le (s : State) (img : Image) (e : Entry) :
    (s.caps img e).blower ≤ e.committed.power * 1000 / img.blowerFull ∧
    (s.caps img e).heat ≤ e.committed.heat * 1000 / img.heatRating ∧
    (s.caps img e).cool ≤ e.committed.cool * 1000 / img.coolRating := by
  have valve (r : Resource) (rating : Nat) :
      (if s.zlp.interlock then 0 else s.heldDraw e r * 1000 / rating) ≤
        e.committed.get r * 1000 / rating := by
    split
    · exact Nat.zero_le _
    · exact permille_mono (heldDraw_le s e r) rating
  refine ⟨?_, valve .heat img.heatRating, valve .cool img.coolRating⟩
  exact ((Nat.min_le_left _ _).trans (Nat.min_le_right _ _)).trans
    (permille_mono (belowTarget_le _ _) _)

/-- R143: with an image and a self entry, a recomputation evaluates the interlock and pushes the caps. -/
theorem recomputeCaps_some {s : State} {img : Image} {e : Entry} (image : s.cfg.image = some img)
    (self : s.stb.self = some e) :
    ∃ e', (s.evalInterlock img e).stb.self = some e' ∧ e'.committed = e.committed ∧
      s.recomputeCaps = (s.evalInterlock img e).pushCaps ((s.evalInterlock img e).caps img e') := by
  have drawn := (same_evalInterlock s img e).drawn
  rw [self] at drawn
  obtain ⟨e', self', same⟩ := Option.map_eq_some_iff.mp drawn
  refine ⟨e', self', same, ?_⟩
  unfold State.recomputeCaps
  rw [image, self]
  dsimp only
  rw [self']

theorem recomputeCaps_of_no_image {s : State} (none : s.cfg.image = .none) :
    s.recomputeCaps = s := by
  unfold State.recomputeCaps
  rw [none]

theorem recomputeCaps_of_no_self {s : State} (none : s.stb.self = .none) : s.recomputeCaps = s := by
  unfold State.recomputeCaps
  rw [none]
  cases s.cfg.image <;> rfl

/-- R141: after a recomputation no cap allows more than the own committed draw. -/
theorem recomputeCaps_below (s : State) : s.recomputeCaps.CapsBelowDraw := by
  intro img e' image self'
  have notice := recomputeCaps_notice s
  rw [notice.cfg] at image
  cases self : s.stb.self with
  | none =>
    rw [recomputeCaps_of_no_self self, self] at self'
    cases self'
  | some e =>
    obtain ⟨x, selfX, -, pushed⟩ := recomputeCaps_some image self
    have same : x = e' := by
      have kept : s.recomputeCaps.stb.self = some x := by rw [pushed]; exact selfX
      exact Option.some.inj (kept.symm.trans self')
    subst same
    have cap (ch : DutyChannel) : (s.recomputeCaps.dcc.channel ch).cap =
        ((s.evalInterlock img e).caps img x).of ch := by rw [pushed, cap_pushCaps]
    have blower : s.recomputeCaps.dcc.blower.cap = _ := cap .blower
    have heat : s.recomputeCaps.dcc.heat.cap = _ := cap .heatValve
    have cool : s.recomputeCaps.dcc.cool.cap = _ := cap .coolValve
    rw [blower, heat, cool]
    exact caps_le _ img x

theorem recomputeCaps_channels (s : State) :
    s.ChannelsBounded → s.recomputeCaps.ChannelsBounded := by
  intro bounded
  cases image : s.cfg.image with
  | none => rwa [recomputeCaps_of_no_image image]
  | some img =>
    cases self : s.stb.self with
    | none => rwa [recomputeCaps_of_no_self self]
    | some e =>
      obtain ⟨x, -, -, pushed⟩ := recomputeCaps_some image self
      rw [pushed]
      exact pushCaps_channels _ _ ((same_evalInterlock s img e).channels bounded)

theorem recomputeCaps_keepsChannels (s : State) : KeepsChannels s s.recomputeCaps :=
  ⟨recomputeCaps_channels s, fun _ => recomputeCaps_below s⟩

/-! ### Notices -/

/-- A notice keeps the image, the order and the confinement counters. -/
theorem NoticeOnly.keeps {s t : State} (h : NoticeOnly s t) (k : KeepsChannels s t)
    (agrees : s.OverdrawAgrees → t.OverdrawAgrees) : Keeps s t where
  toKeepsChannels := k
  cfg := h.cfg
  table := tableBounded_congr h.cfg h.order
  counts := by
    rw [State.CountsBounded, State.CountsBounded, h.lnk, h.mbr]
    exact id
  agrees _ := agrees

/-- R19: no notice of a table change moves a flag that agrees. -/
theorem TableNotice.agrees_of {s t : State} (h : TableNotice s t)
    (overdraw : t.cjg.overdraw = s.cjg.overdraw) : s.OverdrawAgrees → t.OverdrawAgrees :=
  agrees_congr overdraw h.total fun r => by rw [h.notice.csr]

theorem keeps_recomputeCaps (s : State) : Keeps s s.recomputeCaps :=
  (recomputeCaps_notice s).keeps (recomputeCaps_keepsChannels s)
    ((recomputeCaps_caps s).table.agrees_of (congrArg _ (recomputeCaps_caps s).cjg))

theorem keeps_dropTarget (s : State) (r : Resource) : Keeps s (s.dropTarget r) :=
  (same_setTarget s r none).keeps.trans (keeps_recomputeCaps _)

theorem keeps_offerTarget (s : State) (r : Resource) (t : Nat) : Keeps s (s.offerTarget r t) := by
  unfold State.offerTarget
  exact (((same_setTarget s r _).keeps.trans (keeps_recomputeCaps _)).trans
    (same_ask _ _).keeps).ite (.refl s)

theorem keeps_computeCut (s : State) (r : Resource) : Keeps s (s.computeCut r) := by
  unfold State.computeCut
  split
  · exact .refl s
  · exact (keeps_offerTarget s _ _).ite (.refl s)

/-- Setting an overdraw flag changes no duty and no cap. -/
theorem setOverdraw_keepsChannels (s : State) (r : Resource) (b : Bool) :
    KeepsChannels s (s.setOverdraw r b) :=
  ⟨(SameOutside.refl s).channels, (SameOutside.refl s).caps rfl⟩

theorem evalOverdraw_keepsChannels (s : State) (r : Resource) :
    KeepsChannels s (s.evalOverdraw r) := by
  have flagged (b : Bool) (o : Origin) (k : EventKind) (v : Option Nat) :
      KeepsChannels s ((s.setOverdraw r b).raise o k none (some r) v) :=
    (setOverdraw_keepsChannels s r b).trans (same_raise _ _ _ _ _ _).keeps.toKeepsChannels
  unfold State.evalOverdraw
  dsimp only
  split
  · split
    · exact .refl s
    · split
      · exact (flagged _ _ _ _).trans (keeps_computeCut _ r).toKeepsChannels
      · exact flagged _ _ _ _
  · split
    · exact flagged _ _ _ _
    · exact .refl s

theorem tableChanged_keepsChannels (s : State) : KeepsChannels s s.tableChanged :=
  ((evalOverdraw_keepsChannels s .cool).trans (evalOverdraw_keepsChannels _ .heat)).trans
    (evalOverdraw_keepsChannels _ .power)

theorem keeps_tableChanged (s : State) : Keeps s s.tableChanged :=
  (tableChanged_notice s).keeps (tableChanged_keepsChannels s) fun _ => tableChanged_agrees s

theorem keeps_selfChanged (s : State) : Keeps s s.selfChanged :=
  (keeps_tableChanged s).trans (keeps_recomputeCaps _)

/-- R19: a change of peers or capacities that the notice of a table change follows. -/
theorem keeps_tableChanged_of {s x : State} (outside : SameOutside s x)
    (drawn : x.stb.self.map (·.committed) = s.stb.self.map (·.committed))
    (table : s.TableBounded → x.TableBounded) : Keeps s x.tableChanged where
  toKeepsChannels :=
    (KeepsChannels.mk outside.channels (outside.caps drawn)).trans (tableChanged_keepsChannels x)
  cfg := (tableChanged_notice x).cfg.trans outside.cfg
  table bounded := (keeps_tableChanged x).table (table bounded)
  counts bounded := (keeps_tableChanged x).counts (outside.counts bounded)
  agrees _ _ := tableChanged_agrees x

/-- R19, R143: a change of the own draw that the notices of a change of the self entry follow. -/
theorem keeps_selfChanged_of {s x : State} (outside : SameOutside s x)
    (table : s.TableBounded → x.TableBounded) : Keeps s x.selfChanged where
  channels bounded :=
    recomputeCaps_channels _ ((tableChanged_keepsChannels x).channels (outside.channels bounded))
  caps _ := recomputeCaps_below _
  cfg := (selfChanged_notice x).cfg.trans outside.cfg
  table bounded := (keeps_selfChanged x).table (table bounded)
  counts bounded := (keeps_selfChanged x).counts (outside.counts bounded)
  agrees _ _ := selfChanged_agrees x

/-! ### Station and channels -/

/-- A change to a station state that follows its caps. -/
theorem keeps_station {s : State} {m : Membership} {l : Link}
    (follows : m.station.followsCaps = true)
    (counts : s.CountsBounded → ((s.setMbr m).setLnk l).CountsBounded) :
    Keeps s ((s.setMbr m).setLnk l) where
  channels bounded ch := by
    refine ⟨(bounded ch).1, fun off => (bounded ch).2 ?_⟩
    cases ch with
    | blower =>
      have stopped : (m.station.followsCaps && decide (s.dcc.fan.condition = .running)) = false := off
      rw [follows, Bool.true_and] at stopped
      rw [State.follows, stopped, Bool.and_false]
    | heatValve => exact absurd off (by simp [State.follows, follows])
    | coolValve => exact absurd off (by simp [State.follows, follows])
  caps := id
  cfg := rfl
  table := id
  counts := counts
  agrees _ := id

/-- A change to a station state that drives the line. -/
theorem keeps_setMbr_drives {s : State} {m : Membership} (drives : m.station.drives = true) :
    Keeps s (s.setMbr m) := by
  have follows : m.station.followsCaps = true := by
    cases station : m.station <;> simp [station, Station.drives] at drives <;> rfl
  exact keeps_station (m := m) (l := s.lnk) follows fun ⟨tx, rx, _⟩ =>
    ⟨tx, rx, fun quiet => absurd (drives.symm.trans quiet) (by decide)⟩

/-- A change from a station state in which the counters are 0. -/
theorem keeps_setMbr_follows {s : State} {m : Membership}
    (follows : m.station.followsCaps = true) (silent : s.mbr.station.drives = false) :
    Keeps s (s.setMbr m) :=
  keeps_station (m := m) (l := s.lnk) follows fun ⟨tx, rx, zero⟩ => ⟨tx, rx, fun _ => zero silent⟩

/-- A change of the channels that raises no duty past its cap and starts none that is quiet; where the blower comes to be held off it is quiet. -/
theorem keeps_setDcc {s : State} {d : Drives}
    (cap : ∀ ch, (d.channel ch).cap = (s.dcc.channel ch).cap)
    (within : ∀ ch, (s.dcc.channel ch).WithinCap → (d.channel ch).WithinCap)
    (quiet : ∀ ch, (s.dcc.channel ch).Quiet → (d.channel ch).Quiet)
    (condition : d.fan.condition = s.dcc.fan.condition ∨ d.fan.condition = .running ∨
      (d.channel .blower).Quiet) : Keeps s (s.setDcc d) where
  channels bounded ch := by
    refine ⟨within ch (bounded ch).1, fun off => ?_⟩
    rcases condition with same | running | stopped
    · exact quiet ch ((bounded ch).2 (by rw [← off]; exact (follows_congr (t := s.setDcc d) (s := s) rfl same ch).symm))
    · refine quiet ch ((bounded ch).2 ?_)
      cases ch with
      | blower =>
        have station : s.mbr.station.followsCaps = false := by
          simpa [State.follows, running] using off
        simp [State.follows, station]
      | heatValve => exact off
      | coolValve => exact off
    · cases ch with
      | blower => exact stopped
      | heatValve => exact quiet _ ((bounded _).2 off)
      | coolValve => exact quiet _ ((bounded _).2 off)
  caps := capsBelowDraw_congr rfl cap rfl
  cfg := rfl
  table := id
  counts := id
  agrees _ := id

/-- A change of the channels whose amounts stand, the stall watch following it. -/
theorem keeps_changeDrives {s : State} {f : Drives → Drives}
    (amounts : ∀ ch, ((f s.dcc).channel ch).amounts = (s.dcc.channel ch).amounts)
    (condition : (f s.dcc).fan.condition = s.dcc.fan.condition ∨
      (f s.dcc).fan.condition = .running) : Keeps s (s.changeDrives f) := by
  refine keeps_setDcc (fun ch => ?_) (fun ch => ?_) (fun ch => ?_) ?_
  · rw [channel_rewatch]; exact congrArg Prod.fst (amounts ch)
  · rw [channel_rewatch]; exact (withinCap_congr (amounts ch)).mpr
  · rw [channel_rewatch]; exact (quiet_congr (amounts ch)).mpr
  · rw [rewatch_condition]
    exact condition.imp_right .inl

end Sys2Proof.Machine
end

section
/-! SUPPORT. One lemma per operation: the bounds that the blocks keep through it. Operations outside what the bounds read come first, then those of the table, the stations, the link and the channels. -/

namespace Sys2Proof.Machine

/-! ### Operations outside what the bounds read -/

theorem SameBounds.andThen {s t u : State} {p : Prop} [Decidable p] (h : SameBounds s t)
    (k : SameBounds t u) : SameBounds s (if p then u else t) := (h.trans k).ite h

theorem same_pushDamper (s : State) (n : Nat) : SameBounds s (s.pushDamper n) :=
  same_changeDamper s _

theorem same_endDoorHold (s : State) : SameBounds s s.endDoorHold :=
  (same_setZlp s _).ite ((same_setZlp s _).trans (same_raise _ _ _ _ _ _))

theorem same_stopLoop (s : State) : SameBounds s s.stopLoop :=
  ((same_endDoorHold s).trans (same_setZlp _ _)).trans (same_pushDamper _ _)

/-- A change of the blower's watch and capture. -/
theorem same_setFan {s : State} {d : Drives} (channel : ∀ ch, d.channel ch = s.dcc.channel ch)
    (condition : d.fan.condition = s.dcc.fan.condition) : SameBounds s (s.setDcc d) :=
  ⟨⟨rfl, rfl, rfl, rfl, fun ch => congrArg Channel.amounts (channel ch), condition⟩,
    rfl, rfl, fun _ => rfl, rfl⟩

theorem same_closeWindow (s : State) : SameBounds s s.closeWindow :=
  same_setFan (fun ch => by cases ch <;> rfl) rfl

theorem same_setAdoption (s : State) (b : Bool) : SameBounds s (s.setAdoption b) :=
  same_setCsr _ _ fun r => by cases r <;> rfl

theorem same_homeDamper (s : State) : SameBounds s s.homeDamper := same_changeDamper s _

theorem same_withholdVeto (s : State) : SameBounds s s.withholdVeto :=
  ((same_setCjg _ _).trans (same_setLnk _ _)).ite (.refl s)

theorem same_endFrame (s : State) : SameBounds s s.endFrame := same_setLnk _ _

theorem same_breakFrame (s : State) : SameBounds s s.breakFrame := same_setLnk _ _

theorem same_countMalformed (s : State) (f : Option FrameBody) :
    SameBounds s (s.countMalformed f) := (same_bump s _).ite (.refl s)

theorem same_unjudge (s : State) (f : FrameBody) : SameBounds s (s.unjudge f) := by
  cases f with
  | request r _ _ _ _ => exact same_setCjg _ _
  | _ => exact .refl s

theorem same_startFrame (s : State) (i : Intent) (f : FrameBody) :
    SameBounds s (s.startFrame i f) :=
  ((same_setLnk _ _).trans (same_setTxq _ _)).trans (same_unjudge _ f)

theorem same_lineIdle (s : State) : SameBounds s s.lineIdle := by
  unfold State.lineIdle
  exact ((same_setLnk _ _).andThen (same_setMbr _ _)).ite (.refl s)

theorem same_startBitRead (s : State) : SameBounds s s.startBitRead :=
  ((same_setLnk _ _).trans (same_setMbr _ _)).ite (.refl s)

theorem same_dominantBit (s : State) (k : Option (Fin 7)) : SameBounds s (s.dominantBit k) := by
  cases k with
  | none => exact (same_setLnk _ _).ite (.refl s)
  | some k => exact (same_setLnk _ _).ite (.refl s)

theorem same_loseArbitration (s : State) : SameBounds s s.loseArbitration :=
  (((same_setLnk _ _).trans (same_setTxq _ _)).trans (same_bump _ _)).ite (.refl s)

theorem same_driveVerdict (s : State) (c : Claim) : SameBounds s (s.driveVerdict c) := by
  unfold State.driveVerdict
  split
  · exact same_setLnk _ _
  · exact ((same_setCjg _ _).trans (same_setLnk _ _)).trans (same_bump _ _)

theorem same_setVerdict (s : State) (r : Resource) (v : OwnVerdict) :
    SameBounds s (s.setVerdict r v) := same_setCjg _ _

theorem same_judgeOwn (s : State) : SameBounds s s.judgeOwn := by
  unfold State.judgeOwn
  split
  · split
    · exact .refl s
    · exact (same_driveVerdict s _).trans (same_setVerdict _ _ _)
  · exact .refl s

theorem same_judgeHeard (s : State) (b : RxBody) : SameBounds s (s.judgeHeard b) := by
  unfold State.judgeHeard
  split
  · split
    · exact .refl s
    · exact same_driveVerdict s _
  · exact .refl s

theorem same_recordOutcome (s : State) (r : Resource) (b : Bool) :
    SameBounds s (s.recordOutcome r b) :=
  have recorded (o : LastOutcome) : SameBounds s (s.setOutcome r o) := same_setCjg _ _
  ((recorded _).trans (same_bump _ _)).ite
    (((recorded _).trans (same_bump _ _)).trans (same_raise _ _ _ _ _ _))

theorem same_startCensus (s : State) : SameBounds s s.startCensus :=
  (same_setMbr _ _).ite (.refl s)

theorem same_startStateTimer (s : State) : SameBounds s s.startStateTimer := same_setTxq s _

theorem same_adoptSetpoint (s : State) (v : Nat) (m : SetMode) (e o : Nat) :
    SameBounds s (s.adoptSetpoint v m e o) :=
  (same_setCsr _ _).trans (same_raise _ _ _ _ _ _)

theorem same_offerSetpoint (s : State) (v : Nat) (m : SetMode) (e o : Nat) :
    SameBounds s (s.offerSetpoint v m e o) := by
  unfold State.offerSetpoint
  split
  · exact .refl s
  · exact (same_adoptSetpoint s _ _ _ _).ite (.refl s)

theorem same_offerStateSetpoint (s : State) (c : StateContent) :
    SameBounds s (s.offerStateSetpoint c) := by
  unfold State.offerStateSetpoint
  split
  · exact .refl s
  · exact (same_adoptSetpoint s _ _ _ _).ite (.refl s)

theorem same_untrackedEnd (s : State) : SameBounds s s.untrackedEnd := by
  unfold State.untrackedEnd
  split
  · exact .refl s
  · exact ⟨⟨rfl, rfl, rfl, rfl, fun _ => rfl, rfl⟩, rfl, rfl, fun _ => rfl, rfl⟩

theorem same_supplyExpired (s : State) (r : Resource) : SameBounds s (s.supplyExpired r) := by
  have expired (c : CapacityRecord) (value : c.value = (s.csr.capacity.get r).value) :
      SameBounds s (s.setCsr { s.csr with capacity := s.csr.capacity.set r c }) := by
    refine same_setCsr _ _ fun x => ?_
    by_cases here : x = r
    · rw [here, Per.get_set, value]
    · rw [Per.get_set_other _ _ here]
  unfold State.supplyExpired
  split
  · exact .refl s
  · exact .refl s
  · exact SameBounds.andThen (expired { s.csr.capacity.get r with timer := .expired } rfl)
      (same_ask _ _)

theorem same_stateExpired (s : State) : SameBounds s s.stateExpired := by
  unfold State.stateExpired
  split
  · exact .refl s
  · exact (same_setTxq s _).andThen (same_ask _ _)

theorem same_shedNow (s : State) : SameBounds s s.shedNow := by
  unfold State.shedNow
  split
  · exact ((same_setZlp s _).trans (same_mapSelf _ _)).trans (same_forceRelease _ _ _)
  · exact .refl s

theorem same_shedGuard (s : State) : SameBounds s s.shedGuard := by
  unfold State.shedGuard
  split
  · exact (same_forceRelease s _ _).ite (.refl s)
  · exact .refl s

/-! ### The Zone Loop -/

theorem same_raiseFault (s : State) (was now : Bool) (n : Nat) :
    SameBounds s (s.raiseFault was now n) := (same_raise s _ _ _ _ _).ite (.refl s)

theorem same_returnFaultRelease (s : State) (was now : Bool) :
    SameBounds s (s.returnFaultRelease was now) :=
  ((same_forceRelease s _ _).trans (same_forceRelease _ _ _)).ite (.refl s)

theorem same_stageFaults (s : State) (img : Image) : SameBounds s (s.stageFaults img) :=
  ((((same_setZlp s _).trans (same_raiseFault _ _ _ _)).trans (same_raiseFault _ _ _ _)).trans
    (same_raiseFault _ _ _ _)).trans (same_returnFaultRelease _ _ _)

theorem same_releaseUnused (s : State) (m : ZoneMode) (r : Resource) :
    SameBounds s (s.releaseUnused m r) := (SameBounds.refl s).ite (same_forceRelease s _ _)

theorem same_changeover (s : State) (m : ZoneMode) (e : Entry) :
    SameBounds s (s.changeover m e) :=
  (((same_setZlp s _).trans (same_releaseUnused _ _ _)).trans (same_releaseUnused _ _ _)).trans
    (same_releaseUnused _ _ _)

theorem same_stageMode (s : State) (p : SetpointRecord) (e : Entry) :
    SameBounds s (s.stageMode p e) :=
  have looked : SameBounds s ((s.setMbr { s.mbr with
      freezeWake := keepsFreeze s.mbr.freezeWake s.zlp.zone }).setZlp
      (s.zlp.autoMode p.mode (s.after Config.switchTime))) :=
    (same_setMbr _ _).trans (same_setZlp _ _)
  (looked.trans (same_setZlp _ _)).ite (looked.trans (same_changeover _ _ _))

theorem same_stageLoop (s : State) (img : Image) : SameBounds s (s.stageLoop img) := by
  unfold State.stageLoop
  dsimp only
  split
  · exact same_setZlp s _
  · split <;> exact same_setZlp s _

theorem same_frostSeen (s : State) (e : Entry) : SameBounds s (s.frostSeen e) := by
  unfold State.frostSeen
  exact ((same_setZlp s _).andThen (same_forceRelease _ _ _)).ite (.refl s)

theorem same_stageFrost (s : State) (e : Entry) : SameBounds s (s.stageFrost e) :=
  ((same_frostSeen s e).trans (same_setZlp _ _)).andThen (same_setZlp _ _)

theorem same_stagesToDemand (s : State) (img : Image) (p : SetpointRecord) (e : Entry) :
    SameBounds s (s.stagesToDemand img p e) :=
  ((((same_stageFaults s img).trans (same_setZlp _ _)).trans (same_stageMode _ _ _)).trans
    (same_stageLoop _ _)).trans (same_stageFrost _ _)

theorem same_stageEntry (s : State) (img : Image) (e : Entry) :
    SameBounds s (s.stageEntry img e) :=
  (same_mapSelf _ _).andThen (same_ask _ _)

theorem same_stagesToEntry (s : State) (img : Image) (e : Entry) :
    SameBounds s (s.stagesToEntry img e) :=
  ((((same_setZlp s _).trans (same_setZlp _ _)).trans (same_setZlp _ _)).trans
    (same_evalInterlock _ _ _)).trans (same_stageEntry _ _ _)

theorem same_openHold (s : State) : SameBounds s s.openHold := by
  unfold State.openHold
  split
  · exact .refl s
  · exact (same_setZlp s _).trans (same_raise _ _ _ _ _ _)

theorem same_doorAtFirst (s : State) (img : Image) (first : Bool) :
    SameBounds s (s.doorAtFirst img first) := (same_openHold s).ite (.refl s)

theorem keeps_stages (s : State) (img : Image) (p : SetpointRecord) (e : Entry) :
    Keeps s (s.stages img p e) :=
  ((((same_stagesToDemand s img p e).trans (same_stagesToEntry _ _ _)).trans
    (same_doorAtFirst _ _ _)).keeps.trans (keeps_recomputeCaps _)).trans
    (same_pushDamper _ _).keeps

theorem same_decideClaim (s : State) (r : Resource) : SameBounds s (s.decideClaim r) := by
  unfold State.decideClaim
  split
  · exact .refl s
  · exact (same_ask s _).ite ((same_ask s _).ite (.refl s))

theorem keeps_cutAgain (s : State) (r : Resource) : Keeps s (s.cutAgain r) :=
  (keeps_computeCut s r).ite (.refl s)

theorem keeps_yieldShare (s : State) (r : Resource) : Keeps s (s.yieldShare r) := by
  unfold State.yieldShare
  split
  · exact .refl s
  · exact (keeps_offerTarget s _ _).ite (.refl s)

theorem keeps_eachResource {f : State → Resource → State} (each : ∀ s r, Keeps s (f s r))
    (s : State) : Keeps s (s.eachResource f) :=
  ((each s .cool).trans (each _ .heat)).trans (each _ .power)

/-- R126: the control interval. -/
theorem keeps_interval (s : State) : Keeps s s.interval := by
  unfold State.interval
  split
  · exact .refl s
  · dsimp only
    split
    · refine Keeps.ite ?_ (same_setZlp s _).keeps
      have begun := ((same_setZlp s { s.zlp with controlTimer := none }).trans
        (same_setZlp _ { s.zlp with controlTimer := s.after Config.controlInterval })).trans
        (same_closeWindow _)
      exact (((begun.keeps.trans (keeps_stages _ _ _ _)).trans
        (keeps_eachResource (fun s r => (same_decideClaim s r).keeps) _)).trans
        (keeps_eachResource keeps_cutAgain _)).trans (keeps_eachResource keeps_yieldShare _)
    · exact (same_setZlp s _).keeps

theorem same_doorHeld (s : State) (active : Bool) : SameBounds s (s.doorHeld active) := by
  have opened : SameBounds s s.doorOpened := by
    unfold State.doorOpened
    split
    · exact same_openHold s
    · exact .refl s
    · exact same_setZlp s _
  have closed (img : Image) : SameBounds s (s.doorClosed img) := by
    unfold State.doorClosed
    split
    · exact .refl s
    · exact (same_endDoorHold s).ite (same_setZlp s _)
    · exact .refl s
  unfold State.doorHeld
  split
  · exact .refl s
  · exact (opened.ite (closed _)).ite (.refl s)

theorem same_doorChange (s : State) (active : Bool) : SameBounds s (s.doorChange active) :=
  (same_setZlp s _).ite ((SameBounds.refl s).ite ((same_setZlp s _).trans (same_doorHeld _ _)))

theorem same_holdEnd (s : State) : SameBounds s s.holdEnd := by
  unfold State.holdEnd
  split
  · exact .refl s
  · exact (same_endDoorHold s).ite (same_setZlp s _)

theorem same_sensorSample (s : State) (x : Sensor) (n : BitVec 12) :
    SameBounds s (s.sensorSample x n) := by
  unfold State.sensorSample
  split
  · exact .refl s
  · exact (same_setZlp s _).ite (.refl s)

theorem keeps_setShed (s : State) (b : Bool) : Keeps s (s.setShed b) := by
  unfold State.setShed
  split
  · exact .refl s
  · have flagged : SameBounds s (s.mapSelf fun e => { e with shed := b }) :=
      same_mapSelf _ _
    have lowered := flagged.andThen (p := (b && (s.mapSelf fun e =>
      { e with shed := b }).isMember) = true) (same_shedNow _)
    exact (lowered.andThen (same_ask _ _)).keeps.trans (keeps_selfChanged _)

theorem keeps_blowerReport (s : State) : Keeps s s.blowerReport := by
  unfold State.blowerReport
  refine Keeps.ite ?_ (keeps_recomputeCaps s)
  exact (((((same_setZlp s _).trans (same_mapSelf _ _)).trans
    (same_forceRelease _ _ _)).trans (same_forceRelease _ _ _)).trans
    (same_forceRelease _ _ _)).keeps.trans (keeps_recomputeCaps _)

end Sys2Proof.Machine
end

section
/-! SUPPORT. The bounds through the operations of table, stations, link and channels. -/

namespace Sys2Proof.Machine

/-! ### The table -/

/-- An order that stays bounded for the image that stands. -/
theorem tableBounded_of {s t : State} (cfg : t.cfg = s.cfg)
    (length : s.stb.order.length ≤ 11 → t.stb.order.length ≤ 11)
    (once : (s.stb.order.map (·.address)).Nodup → (t.stb.order.map (·.address)).Nodup)
    (other : ∀ e ∈ t.stb.order, e.address ≠ s.ownAddress ∨ ∃ x ∈ s.stb.order, x.address = e.address) :
    s.TableBounded → t.TableBounded := by
  intro ⟨short, nodup, image⟩
  refine ⟨length short, once nodup, fun img here => ?_⟩
  rw [cfg] at here
  obtain ⟨pinned, others⟩ := image img here
  refine ⟨pinned, fun e he => ?_⟩
  rcases other e he with foreign | ⟨x, hx, same⟩
  · have own : s.ownAddress = img.address := by rw [State.ownAddress, here]; rfl
    exact own ▸ foreign
  · exact same ▸ others x hx

/-- An order whose entries keep their addresses, some of them removed, stays bounded. -/
theorem tableBounded_of_sublist {s t : State} (cfg : t.cfg = s.cfg)
    (sub : (t.stb.order.map (·.address)).Sublist (s.stb.order.map (·.address))) :
    s.TableBounded → t.TableBounded := by
  refine tableBounded_of cfg (fun short => ?_) (fun nodup => nodup.sublist sub) fun e he => ?_
  · exact (by simpa using sub.length_le : t.stb.order.length ≤ s.stb.order.length).trans short
  · obtain ⟨x, hx, same⟩ := List.mem_map.mp (sub.subset (List.mem_map_of_mem he))
    exact .inr ⟨x, hx, same⟩

theorem addresses_mapPeer (t : ShareTable) (a : Nat) {f : Entry → Entry}
    (address : ∀ e, (f e).address = e.address) :
    (t.mapPeer a f).order.map (·.address) = t.order.map (·.address) := by
  rw [ShareTable.mapPeer, List.map_map]
  refine List.map_congr_left fun e _ => ?_
  show (if _ then f e else e).address = e.address
  split
  · exact address e
  · rfl

/-- R4: an address placed at the head stands once. -/
theorem nodup_toHead {es es' : List Entry} {e : Entry} (sub : es'.Sublist es)
    (nodup : (es.map (·.address)).Nodup) :
    ((e :: dropAddress es' e.address).map (·.address)).Nodup := by
  rw [List.map_cons, List.nodup_cons]
  refine ⟨not_mem_dropAddress _ _, nodup.sublist ?_⟩
  exact ((dropAddress_sublist es' e.address).trans sub).map _

/-- R4: an entry placed at the head of an order with room for it. -/
theorem tableBounded_toHead {s t : State} {es : List Entry} {e : Entry} (cfg : t.cfg = s.cfg)
    (order : t.stb.order = e :: dropAddress es e.address) (sub : es.Sublist s.stb.order)
    (room : s.stb.order.length ≤ 11 → (dropAddress es e.address).length + 1 ≤ 11)
    (other : e.address ≠ s.ownAddress) : s.TableBounded → t.TableBounded := by
  refine tableBounded_of cfg (fun short => ?_) (fun nodup => ?_) fun x hx => ?_
  · rw [order]; exact room short
  · rw [order]; exact nodup_toHead sub nodup
  · rw [order] at hx
    rcases List.mem_cons.mp hx with rfl | behind
    · exact .inl other
    · exact .inr ⟨x, sub.subset ((dropAddress_sublist es _).subset behind), rfl⟩

/-- R8: an entry made by a frame has its sender's address. -/
theorem createdBy_address {a : Nat} {f : FrameBody} {e : Entry} (made : createdBy a f = some e) :
    e.address = a := by
  cases f <;> simp only [createdBy, Option.some.injEq, reduceCtorEq] at made <;> rw [← made] <;> rfl

theorem overwrittenBy_address (e : Entry) (f : FrameBody) : (e.overwrittenBy f).address = e.address := by
  cases f <;> rfl

/-- R12: the place of an entry that stands is free for its refresh. -/
theorem dropAddress_length_lt {es : List Entry} {a : Nat} {e : Entry}
    (found : es.find? (fun e => e.address == a) = some e) :
    (dropAddress es a).length + 1 ≤ es.length := by
  have address : e.address = a := find_address found
  refine List.length_filter_lt_length_iff_exists.mpr ⟨e, List.mem_of_find?_eq_some found, ?_⟩
  simp [address]

/-- R5 to R12: the table stays bounded when it takes a frame of another station. -/
theorem seat_tableBounded {s : State} {a : Nat} (other : a ≠ s.ownAddress) (f : FrameBody) :
    s.TableBounded → (s.seat a f).TableBounded := by
  unfold State.seat
  split
  next e found =>
    have address : e.address = a := find_address found
    have room : s.stb.order.length ≤ 11 → (dropAddress s.stb.order a).length + 1 ≤ 11 :=
      (dropAddress_length_lt found).trans
    split
    · refine tableBounded_toHead (es := s.stb.order) rfl rfl (.refl _) ?_ ?_ <;>
        rw [overwrittenBy_address, address]
      exacts [room, other]
    · split
      next n made =>
        refine tableBounded_toHead (es := s.stb.order) rfl rfl (.refl _) ?_ ?_ <;>
          rw [createdBy_address made]
        exacts [room, other]
      next => exact id
  next missing =>
    split
    next n made =>
      have address := createdBy_address made
      unfold State.create
      split
      next place =>
        refine tableBounded_toHead (es := s.stb.order) rfl rfl (.refl _) (fun _ => ?_)
          (address ▸ other)
        have free : s.stb.order.length + 1 < 12 := by
          exact of_decide_eq_true place
        have shorter := (dropAddress_sublist s.stb.order n.address).length_le
        omega
      next =>
        split
        next es evicted =>
          obtain ⟨sub, length⟩ := evictFrom_sublist evicted
          refine tableBounded_toHead (es := es) rfl rfl sub (fun short => ?_) (address ▸ other)
          have shorter := (dropAddress_sublist es n.address).length_le
          omega
        next =>
          unfold State.unrecorded
          dsimp only
          split <;> exact tableBounded_congr rfl rfl
    next => exact id

theorem OrderOnly.outside {s t : State} (h : OrderOnly s t) : SameOutside s t := by
  rw [h.rest]
  exact ⟨rfl, rfl, rfl, rfl, fun _ => rfl, rfl⟩

/-- R5 to R12, R19: a frame of another station recorded in the table, and the notice of it. -/
theorem keeps_recorded {s : State} {a : Nat} (other : a ≠ s.ownAddress) (f : FrameBody)
    {g : Entry → Entry} (address : ∀ e, (g e).address = e.address) :
    Keeps s ((s.seat a f).mapPeer a g).tableChanged := by
  have only := (seat_order s a f).trans (mapPeer_order _ a g)
  refine keeps_tableChanged_of only.outside (by rw [only.stb]) fun bounded => ?_
  refine tableBounded_of_sublist (s := s.seat a f) rfl ?_ (seat_tableBounded other f bounded)
  have same := addresses_mapPeer (s.seat a f).stb a address
  exact same ▸ List.Sublist.refl _

theorem keeps_seated {s : State} {a : Nat} (other : a ≠ s.ownAddress) (f : FrameBody) :
    Keeps s (s.seat a f).tableChanged := by
  rw [← mapPeer_id (s.seat a f) a]
  exact keeps_recorded other f fun _ => rfl

/-- R17: a refresh moves an entry to the head and leaves every total. -/
theorem total_refreshed {t : ShareTable} {a : Nat} {e : Entry}
    (once : (t.order.map (·.address)).Nodup) (found : t.peer a = some e) (present : e.present = true)
    (r : Resource) :
    ShareTable.total { t with order := { e with age := 0 } :: dropAddress t.order a } r =
      t.total r := by
  have order := ((perm_dropAddress once found).filter (·.present)).map fun e => e.committed.get r
  have head : ({ e with age := 0 } :: dropAddress t.order a).filter (·.present) =
      { e with age := 0 } :: (dropAddress t.order a).filter (·.present) :=
    List.filter_cons_of_pos present
  rw [List.filter_cons_of_pos present] at order
  simp only [ShareTable.total, ShareTable.counted, List.map_append, List.sum_append, head]
  exact congrArg _ order.sum_eq.symm

/-- R6: a frame that makes no entry and overwrites none keeps every total. -/
theorem keeps_refreshed {s : State} {a : Nat} (other : a ≠ s.ownAddress) {f : FrameBody}
    (makes : createdBy a f = none) (leaves : ∀ e : Entry, e.overwrittenBy f = e) :
    Keeps s (s.seat a f) := by
  have only := seat_order s a f
  have drawn : (s.seat a f).stb.self.map (·.committed) = s.stb.self.map (·.committed) := by
    rw [only.stb]
  have rest := only.rest
  refine ⟨⟨only.outside.channels, only.outside.caps drawn⟩, only.outside.cfg,
    seat_tableBounded other f, only.outside.counts, fun bounded => ?_⟩
  refine agrees_congr (by rw [rest]; rfl) (fun r => ?_) (fun r => by rw [rest]; rfl)
  rw [seat_refreshed s a f makes leaves]
  cases found : s.stb.peer a with
  | none => rfl
  | some e =>
    by_cases present : e.present = true
    · dsimp only
      rw [if_pos present]
      exact total_refreshed bounded.2.1 found present r
    · dsimp only
      rw [if_neg present]
      rfl

/-- R14: a tick takes entries out and leaves the addresses of the others. -/
theorem addresses_ticked (es : List Entry) :
    ((es.filterMap Entry.ticked).map (·.address)).Sublist (es.map (·.address)) := by
  induction es with
  | nil => exact .slnil
  | cons e es ih =>
    rw [List.filterMap_cons]
    cases ticked : e.ticked with
    | none => exact ih.cons _
    | some x =>
      have address : x.address = e.address := by
        unfold Entry.ticked at ticked
        split at ticked
        · split at ticked
          · rw [← Option.some.inj ticked]; rfl
          · cases ticked
        · split at ticked <;> rw [← Option.some.inj ticked]
      show (x.address :: _).Sublist (e.address :: _)
      rw [address]
      exact ih.cons_cons _

theorem same_lapses (as : List Nat) (s : State) : SameBounds s (as.foldl State.raiseLapsed s) := by
  induction as generalizing s with
  | nil => exact .refl s
  | cons a as ih => exact ((same_raise s _ _ _ _ _).trans (same_bump _ _)).trans (ih _)

theorem keeps_ageTick (s : State) : Keeps s s.ageTick := by
  unfold State.ageTick
  split
  · exact .refl s
  · dsimp only
    have lapses := same_lapses ((s.stb.order.filter Entry.lapses).map (·.address))
      (s.setStb (s.stb.ticked (s.after Config.ageTick)))
    have ticked : SameOutside s (s.setStb (s.stb.ticked (s.after Config.ageTick))) :=
      ⟨rfl, rfl, rfl, rfl, fun _ => rfl, rfl⟩
    refine keeps_tableChanged_of (ticked.trans lapses.toSameOutside) (lapses.drawn.trans ?_) ?_
    · show (s.stb.self.map Entry.outdoorAged).map _ = _
      rw [Option.map_map]
      rfl
    · refine tableBounded_of_sublist lapses.cfg ?_
      rw [lapses.order]
      exact addresses_ticked s.stb.order

/-! ### Capacities and frames taken -/

theorem keeps_applySupply (s : State) (a : Nat) (fallback : Bool) (vs : Per (Option Nat)) :
    Keeps s (s.applySupply a fallback vs) := by
  obtain ⟨x, only, rest, -, -⟩ := applySupply_notice s a fallback vs
  have stands := only.rest
  rw [rest]
  refine keeps_tableChanged_of ?_ (by rw [stands]; rfl)
    (tableBounded_congr (by rw [stands]; rfl) (by rw [stands]; rfl))
  rw [stands]
  exact ⟨rfl, rfl, rfl, rfl, fun _ => rfl, rfl⟩

theorem keeps_adoptCapacity (s : State) (a : Nat) (c : StateContent) :
    Keeps s (s.adoptCapacity a c) :=
  keeps_tableChanged_of ⟨rfl, rfl, rfl, rfl, fun _ => rfl, rfl⟩ rfl (tableBounded_congr rfl rfl)

theorem ownAddress_congr {s t : State} (cfg : t.cfg = s.cfg) : t.ownAddress = s.ownAddress := by
  rw [State.ownAddress, State.ownAddress, cfg]

theorem keeps_takeState {s : State} {a : Nat} (other : a ≠ s.ownAddress) (f : FrameBody) :
    Keeps s (s.takeState a f) := by
  unfold State.takeState
  split
  next c =>
    split
    · split
      · exact (((same_drawn s).keeps.trans (keeps_seated (s := s.drawn) other _)).trans
          (keeps_adoptCapacity _ _ _)).trans (same_offerStateSetpoint _ _).keeps
      · have adopted := (same_drawn s).keeps.trans (keeps_adoptCapacity s.drawn a c)
        have other' : a ≠ (s.drawn.adoptCapacity a c).ownAddress :=
          ownAddress_congr adopted.cfg ▸ other
        exact (adopted.trans (keeps_seated other' _)).trans (same_offerStateSetpoint _ _).keeps
    · exact (keeps_seated other _).trans (same_offerStateSetpoint _ _).keeps
  next => exact .refl s

/-! ### The station's stores -/

/-- R23, R25: the own draws given up. -/
theorem keeps_zeroSelf (s : State) : Keeps s s.zeroSelf :=
  keeps_selfChanged_of ⟨rfl, rfl, rfl, rfl, fun _ => rfl, rfl⟩ (tableBounded_congr rfl rfl)

theorem keeps_enterJoining (s : State) : Keeps s s.enterJoining :=
  (((keeps_setMbr_drives rfl).trans (same_setTxq _ _).keeps).trans
    (same_setAdoption _ _).keeps).trans (same_ask _ _).keeps

theorem keeps_enterMember (s : State) : Keeps s s.enterMember := by
  have joined : Keeps s (s.setMbr { s.mbr with station := .member, censusTimer := none }) :=
    keeps_setMbr_drives rfl
  have opened := (same_raise (s.setMbr { s.mbr with station := .member, censusTimer := none })
    mbrOrigin .joined none none (some s.stb.presentPeers)).trans (same_setAdoption _ false)
  exact joined.trans (((opened.andThen (same_ask _ _)).trans (same_setZlp _ _)).trans
    (same_closeWindow _)).keeps

theorem keeps_selfLapse (s : State) : Keeps s s.selfLapse := by
  unfold State.selfLapse
  have lapsed := ((same_withholdVeto s).trans (same_raise _ mbrOrigin .lapsedSelf none none
    (some s.lnk.txVoid))).keeps
  exact (((lapsed.trans (keeps_setMbr_drives rfl)).trans (keeps_zeroSelf _)).trans
    (same_stopLoop _).keeps).trans (keeps_enterJoining _)

/-- R86, R113: entering LINK_QUIET clears the counters with the station state. -/
theorem keeps_enterLinkQuiet (s : State) (value : Nat) : Keeps s (s.enterLinkQuiet value) := by
  unfold State.enterLinkQuiet
  have quieted (x : State) (m : Membership) (l : Link) (station : m.station = .linkQuiet)
      (tx : l.txVoid = 0) (rx : l.rxFault = 0) : Keeps x ((x.setMbr m).setLnk l) := by
    refine keeps_station (by rw [station]; rfl) fun _ => ?_
    exact ⟨tx.trans_lt (by decide), rx.trans_lt (by decide), fun _ => ⟨tx, rx⟩⟩
  exact (((((same_raise s _ _ _ _ _).keeps.trans (quieted _ _ _ rfl rfl rfl)).trans
    (same_setTxq _ _).keeps).trans (keeps_zeroSelf _)).trans (same_setAdoption _ _).keeps).trans
    (same_stopLoop _).keeps

theorem keeps_enterSettling {s : State} (silent : s.mbr.station.drives = false) :
    Keeps s s.enterSettling := by
  unfold State.enterSettling
  have followed : SameBounds s (s.setLnk s.lnk.follow) := by
    refine same_setLnk s _ ?_ ?_ <;> · unfold Link.follow; split <;> rfl
  exact (followed.keeps.trans (keeps_setMbr_follows rfl silent)).trans (same_homeDamper _).keeps

theorem keeps_wakeUp {s : State} (silent : s.mbr.station.drives = false) (w : WakeSource) :
    Keeps s (s.wakeUp w) :=
  ((same_raise s _ _ _ _ _).trans (same_setMbr _ _)).keeps.trans (keeps_enterSettling silent)

/-- R149: each channel forced off. -/
theorem channel_forceAllOff (s : State) (ch : DutyChannel) :
    s.forceAllOff.dcc.channel ch =
      { s.dcc.channel ch with on := false, active := 0, buffered := 0 } := by
  show ((Drives.rewatch _ _ _).channel ch) = _
  rw [channel_rewatch]
  have onto {d e : Drives} (k : Nat) (same : d.channel ch = e.channel ch) :
      (d.forceOff ch k).channel ch = { e.channel ch with on := false, active := 0, buffered := 0 } := by
    rw [channel_forceOff, same]
  cases ch with
  | blower =>
    rw [channel_forceOff_other _ _ (by decide), channel_forceOff_other _ _ (by decide)]
    exact onto _ rfl
  | heatValve =>
    rw [channel_forceOff_other _ _ (by decide)]
    exact onto _ (channel_forceOff_other _ _ (by decide))
  | coolValve =>
    refine onto _ ?_
    rw [channel_forceOff_other _ _ (by decide), channel_forceOff_other _ _ (by decide)]

/-- R177: the start content of the table is bounded for an image whose pinned list is. -/
theorem started_bounded {s : State} {img : Image} (image : s.cfg.image = some img)
    (pinned : img.PinnedOk) (order : s.stb.order = img.pinned.map pinnedStart) : s.TableBounded := by
  obtain ⟨short, nodup, own⟩ := pinned
  have addresses : (img.pinned.map pinnedStart).map (·.address) = img.pinned := by
    rw [List.map_map]
    exact List.map_id _
  refine ⟨?_, ?_, fun img' image' => ?_⟩
  · rw [order, List.length_map]
    exact short.trans (by decide)
  · rw [order, addresses]
    exact nodup
  · obtain rfl : img = img' := Option.some.inj (image.symm.trans image')
    refine ⟨⟨short, nodup, own⟩, fun e he same => own ?_⟩
    rw [← addresses, ← order, ← same]
    exact List.mem_map_of_mem he

/-- R22: the table cleared to its start content. -/
theorem clearTable_tableBounded (s : State) : s.TableBounded → s.clearTable.TableBounded := by
  unfold State.clearTable
  split
  · exact id
  next img image => exact fun bounded => started_bounded image (bounded.2.2 img image).1 rfl

theorem startCapacity_stb (s : State) : s.startCapacity.stb = s.stb := by
  unfold State.startCapacity
  split <;> rfl

theorem clearShares_lnk (s : State) : s.clearShares.lnk = s.lnk := by
  have table : s.clearTable.lnk = s.lnk := by
    unfold State.clearTable
    split <;> rfl
  have capacity : s.clearTable.startCapacity.lnk = s.clearTable.lnk := by
    unfold State.startCapacity
    split <;> rfl
  exact (selfChanged_notice _).lnk.trans (capacity.trans table)

theorem clearShares_tableBounded (s : State) : s.TableBounded → s.clearShares.TableBounded :=
  fun bounded => (keeps_selfChanged _).table (tableBounded_congr (s := s.clearTable)
    (outer_startCapacity _).cfg (congrArg _ (startCapacity_stb _)) (clearTable_tableBounded s bounded))

theorem clearShares_agrees (s : State) : s.clearShares.OverdrawAgrees := selfChanged_agrees _

theorem clearShares_below (s : State) : s.clearShares.CapsBelowDraw := recomputeCaps_below _

/-- R149: three channels forced off are within every cap, and held off where they need be. -/
theorem forceAllOff_channels (s : State) : s.forceAllOff.ChannelsBounded := fun ch => by
  rw [Channel.WithinCap, Channel.Quiet, channel_forceAllOff]
  exact ⟨⟨Nat.zero_le _, Nat.zero_le _⟩, fun _ => ⟨rfl, rfl⟩⟩

/-- R149: a change that ends with the channels forced off. -/
theorem keeps_forcedOff {s y : State} (caps : y.CapsBelowDraw) (cfg : y.cfg = s.cfg)
    (table : s.TableBounded → y.TableBounded) (counts : y.CountsBounded) (agrees : y.OverdrawAgrees) :
    Keeps s y.forceAllOff where
  channels _ := forceAllOff_channels y
  caps _ := capsBelowDraw_congr (s := y) rfl (fun ch => by rw [channel_forceAllOff]) rfl caps
  cfg := cfg
  table := table
  counts _ := counts
  agrees _ _ := agrees

/-- R22, R25, R59, R149: the clear of PARK and ISOLATED, from a state with the counters cleared. -/
theorem keeps_clearedOff {s x : State} (cfg : x.cfg = s.cfg) (order : x.stb.order = s.stb.order)
    (txVoid : x.lnk.txVoid = 0) (rxFault : x.lnk.rxFault = 0) :
    Keeps s x.clearShares.stopLoop.forceAllOff := by
  have stopped := same_stopLoop x.clearShares
  have tx := stopped.txVoid.trans ((congrArg _ (clearShares_lnk x)).trans txVoid)
  have rx := stopped.rxFault.trans ((congrArg _ (clearShares_lnk x)).trans rxFault)
  refine keeps_forcedOff (stopped.keeps.caps (clearShares_below x))
    (stopped.cfg.trans ((outer_clearShares x).cfg.trans cfg)) (fun bounded => ?_) ?_
    (stopped.agrees (clearShares_agrees x))
  · exact stopped.keeps.table (clearShares_tableBounded x (tableBounded_congr cfg order bounded))
  · exact ⟨tx.trans_lt (by decide), rx.trans_lt (by decide), fun _ => ⟨tx, rx⟩⟩

theorem keeps_isolate (s : State) (kind : Nat) : Keeps s (s.isolate kind) := by
  unfold State.isolate
  refine Keeps.trans (keeps_clearedOff ?_ ?_ ?_ ?_) (same_changeDamper _ _).keeps <;> rfl

theorem keeps_parkStation (s : State) (d : ParkDepth) (wakeAfter sender : Nat) :
    Keeps s (s.parkStation d wakeAfter sender) := by
  unfold State.parkStation
  cases d <;> exact keeps_clearedOff rfl rfl rfl rfl

/-! ### Frames and confinement -/

/-- A change of the link that raises no confinement counter. -/
theorem keeps_lowered (s : State) (l : Link) (tx : l.txVoid = s.lnk.txVoid ∨ l.txVoid = 0)
    (rx : l.rxFault = s.lnk.rxFault ∨ l.rxFault = 0) : Keeps s (s.setLnk l) where
  channels := id
  caps := id
  cfg := rfl
  table := id
  counts := by
    intro ⟨voids, faults, silent⟩
    refine ⟨?_, ?_, fun quiet => ⟨?_, ?_⟩⟩
    · exact tx.elim (fun same => same.trans_lt voids) fun zero => zero.trans_lt (by decide)
    · exact rx.elim (fun same => same.trans_lt faults) fun zero => zero.trans_lt (by decide)
    · exact tx.elim (fun same => same.trans (silent quiet).1) id
    · exact rx.elim (fun same => same.trans (silent quiet).2) id
  agrees _ := id

/-- R84, R85: a counter below its limit counts up in a station that drives the line. -/
theorem keeps_counted {s : State} (drives : s.mbr.station.drives = true) {l : Link}
    (tx : s.lnk.txVoid < 16 → l.txVoid < 16) (rx : s.lnk.rxFault < 16 → l.rxFault < 16) :
    Keeps s (s.setLnk l) where
  channels := id
  caps := id
  cfg := rfl
  table := id
  counts := fun ⟨voids, faults, _⟩ =>
    ⟨tx voids, rx faults, fun quiet => absurd (drives.symm.trans quiet) (by decide)⟩
  agrees _ := id

theorem keeps_countTxVoid (s : State) : Keeps s s.countTxVoid := by
  unfold State.countTxVoid
  split
  next drives =>
    split
    · exact keeps_enterLinkQuiet s 1
    next below => exact keeps_counted drives (fun _ => Nat.lt_of_not_le below) id
  next => exact .refl s

theorem keeps_countRxFault (s : State) : Keeps s s.countRxFault := by
  unfold State.countRxFault
  split
  next drives =>
    split
    · exact keeps_enterLinkQuiet s 2
    next below => exact keeps_counted drives id fun _ => Nat.lt_of_not_le below
  next => exact .refl s

theorem keeps_dropStaleTarget (s : State) (i : Intent) : Keeps s (s.dropStaleTarget i) := by
  unfold State.dropStaleTarget
  split
  · split
    · exact (keeps_dropTarget s _).ite (.refl s)
    · exact .refl s
  all_goals exact .refl s

theorem keeps_offer (n : Nat) (s : State) : Keeps s (State.offer n s) := by
  induction n generalizing s with
  | zero => exact .refl s
  | succ n ih =>
    unfold State.offer
    split
    · exact .refl s
    · split
      · exact (same_startFrame s _ _).keeps
      · exact ((same_setTxq s _).keeps.trans (keeps_dropStaleTarget _ _)).trans (ih _)

theorem keeps_bitError (s : State) : Keeps s s.bitError :=
  ((((same_breakFrame s).trans (same_setTxq _ _)).trans (same_bump _ _)).keeps.trans
    (keeps_countTxVoid _)).ite (.refl s)

theorem keeps_framingFailure (s : State) (c : FramingCause) : Keeps s (s.framingFailure c) := by
  have broken := (same_breakFrame s).trans (same_bump s.breakFrame .voidsSeen)
  exact (((broken.trans (same_bump _ _)).keeps.trans (keeps_countRxFault _)).ite
    broken.keeps).ite (.refl s)

/-- R81: what the takers do with a frame of another station. -/
theorem keeps_take {s : State} {a : Nat} (other : a ≠ s.ownAddress) (accepted : Bool)
    (f : FrameBody) : Keeps s (s.take a accepted f) := by
  cases f with
  | request r c before raise demand => exact keeps_recorded other _ fun _ => rfl
  | release r d => exact keeps_recorded other _ fun _ => rfl
  | supply fallback vs =>
    exact (keeps_refreshed other rfl fun _ => rfl).trans (keeps_applySupply _ _ _ _)
  | setpoint v m e o =>
    exact (keeps_refreshed other rfl fun _ => rfl).trans (same_offerSetpoint _ _ _ _ _).keeps
  | state c => exact keeps_takeState other (.state c)
  | join w =>
    have seated := keeps_seated other (.join w)
    exact (seated.trans (same_ask _ _).keeps).ite seated
  | park d w => exact (keeps_refreshed other rfl fun _ => rfl).trans (keeps_parkStation _ _ _ _)
  | wake => exact keeps_refreshed other rfl fun _ => rfl

theorem keeps_handOn (s : State) (kind : BitVec 3) (b : RxBody) (accepted : Bool) :
    Keeps s (s.handOn kind b accepted) := by
  unfold State.handOn
  split
  · exact keeps_isolate s _
  next other =>
    split
    · exact .refl s
    · exact (keeps_take other accepted _).ite (.refl s)

theorem keeps_arrive (s : State) (kind : BitVec 3) (b : RxBody) (slots : Slots) :
    Keeps s (s.arrive kind b slots) := by
  have bad (faulted : Bool) : Keeps s (s.arriveBad faulted slots) := by
    have ended := (same_endFrame s).trans (same_bump s.endFrame .checkFailures)
    have seen := ended.andThen (p := (slots.fault || faulted) = true) (same_bump _ .voidsSeen)
    exact (seen.keeps.trans (keeps_countRxFault _)).ite seen.keeps
  have good : Keeps s (s.arriveCounted kind b slots) := by
    have ended := (same_endFrame s).trans (same_countMalformed _ (decodeFrame kind b))
    have counted (x : State) : Keeps x x.arriveGood :=
      (same_bump x _).keeps.trans (keeps_lowered _ _ (.inl rfl) (.inr rfl))
    exact (bad _).ite ((ended.trans (same_bump _ _)).keeps.ite
      ((ended.keeps.trans (counted _)).trans (keeps_handOn _ _ _ _)))
  unfold State.arrive
  refine (Keeps.refl s).ite ?_
  split
  next parked =>
    have silent : s.endFrame.mbr.station.drives = false := by
      show s.mbr.station.drives = false
      rw [parked]
      rfl
    exact ((same_endFrame s).keeps.trans (keeps_wakeUp silent _)).ite (same_endFrame s).keeps
  next => exact good

/-! ### Own completions -/

theorem keeps_completeOwn (s : State) (ack paced : Bool) : Keeps s (s.completeOwn ack paced) := by
  unfold State.completeOwn
  have ended := ((same_endFrame s).trans (same_bump _ .framesSent)).keeps.trans (keeps_lowered _
    { (s.endFrame.bump .framesSent).lnk with
      txVoid := 0, heard := if ack then .heard else .unheard } (.inr rfl) (.inl rfl))
  exact ((ended.trans (same_setMbr _ _).keeps).ite ended).trans (same_setTxq _ _).keeps

theorem keeps_requestDone (s : State) (ack veto : Bool) : Keeps s (s.requestDone ack veto) := by
  unfold State.requestDone
  split
  next r c _ raise demand _ =>
    have recorded := (keeps_completeOwn s ack s.isMember).trans
      (same_recordOutcome _ r (!(veto || s.lnk.vetoDriven))).keeps
    refine Keeps.ite (recorded.trans ?_) recorded
    generalize (s.completeOwn ack s.isMember).recordOutcome r _ = x
    unfold State.applyOwnRequest
    split
    · exact .refl x
    next e _ =>
      have applied : Keeps x ((x.mapSelf fun y => y.withOwnRequest r c raise
          (x.limitedDemand e r demand) (!(veto || s.lnk.vetoDriven))).pace r
          (!(veto || s.lnk.vetoDriven)) raise).selfChanged :=
        keeps_selfChanged_of ⟨rfl, rfl, rfl, rfl, fun _ => rfl, rfl⟩ (tableBounded_congr rfl rfl)
      exact (applied.trans (same_shedGuard _).keeps).ite applied
  next => exact .refl s

theorem same_meetTarget (s : State) (r : Resource) (newDraw : Nat) :
    SameBounds s (s.meetTarget r newDraw) := by
  unfold State.meetTarget
  split
  · exact .refl s
  · exact (same_setTarget s r none).ite (.refl s)

theorem keeps_releaseDone (s : State) (ack : Bool) : Keeps s (s.releaseDone ack) := by
  unfold State.releaseDone
  split
  next r newDraw _ =>
    have completed := keeps_completeOwn s ack false
    refine Keeps.ite (completed.trans ?_) completed
    generalize s.completeOwn ack false = x
    have met := same_meetTarget (x.mapSelf fun e => e.withRelease r newDraw) r newDraw
    have drawn : SameOutside x (x.mapSelf fun e => e.withRelease r newDraw) :=
      ⟨rfl, rfl, rfl, rfl, fun _ => rfl, rfl⟩
    have applied : Keeps x ((x.mapSelf fun e => e.withRelease r newDraw).meetTarget r
        newDraw).selfChanged :=
      keeps_selfChanged_of (drawn.trans met.toSameOutside) (tableBounded_congr met.cfg met.order)
    exact (applied.trans (same_shedGuard _).keeps).ite applied
  next => exact .refl s

theorem keeps_supplyDone (s : State) (ack : Bool) : Keeps s (s.supplyDone ack) := by
  unfold State.supplyDone
  split
  · have completed := keeps_completeOwn s ack false
    exact (completed.trans (keeps_applySupply _ _ _ _)).ite completed
  · exact .refl s

theorem keeps_setpointDone (s : State) (ack : Bool) : Keeps s (s.setpointDone ack) := by
  unfold State.setpointDone
  split
  · have completed := keeps_completeOwn s ack false
    exact (completed.trans (same_offerSetpoint _ _ _ _ _).keeps).ite completed
  · exact .refl s

theorem keeps_parkDone (s : State) (ack : Bool) : Keeps s (s.parkDone ack) := by
  unfold State.parkDone
  split
  · have completed := keeps_completeOwn s ack false
    exact (completed.trans (keeps_parkStation _ _ _ _)).ite completed
  · exact .refl s

theorem keeps_joinDone (s : State) (ack : Bool) : Keeps s (s.joinDone ack) := by
  unfold State.joinDone
  split
  · have completed := (keeps_completeOwn s ack false).trans (same_startCensus _).keeps
    exact (completed.trans (same_startStateTimer _).keeps).ite completed
  · exact .refl s

theorem keeps_stateDone (s : State) (ack : Bool) : Keeps s (s.stateDone ack) := by
  unfold State.stateDone
  split
  · have completed := keeps_completeOwn s ack false
    exact (completed.trans (same_startStateTimer _).keeps).ite completed
  · exact .refl s

theorem keeps_wakeDone (s : State) (ack : Bool) : Keeps s (s.wakeDone ack) := by
  unfold State.wakeDone
  split
  · exact keeps_completeOwn s ack false
  · exact .refl s

theorem keeps_voidDone (s : State) : Keeps s s.voidDone := by
  unfold State.voidDone
  split
  · exact (((same_endFrame s).trans (same_setTxq _ _)).trans (same_bump _ _)).keeps.trans
      (keeps_countTxVoid _)
  · exact .refl s

/-! ### Timers of the station -/

theorem keeps_settled (s : State) : Keeps s s.settled := by
  unfold State.settled
  split
  · exact .refl s
  · exact (keeps_enterJoining s).ite (same_setMbr s _).keeps

theorem keeps_censusEnd (s : State) : Keeps s s.censusEnd := by
  unfold State.censusEnd
  split
  · exact .refl s
  · exact (keeps_enterMember s).ite (same_setMbr s _).keeps

theorem keeps_silenceEnd (s : State) : Keeps s s.silenceEnd := by
  unfold State.silenceEnd
  split
  · exact .refl s
  · exact .refl s
  · have expired : Keeps s (s.setMbr { s.mbr with selfSilence := .expired }) :=
      (same_setMbr s _).keeps
    exact (expired.trans (keeps_selfLapse _)).ite expired

theorem keeps_quietEnd (s : State) : Keeps s s.quietEnd := by
  unfold State.quietEnd
  split
  · exact .refl s
  · exact ((same_setLnk s _).keeps.trans (keeps_enterJoining _)).ite (same_setLnk s _).keeps

/-- R117: a parked station does not drive the line. -/
theorem parked_silent {x : Station} (parked : x.parked = true) : x.drives = false := by
  cases x <;> first | rfl | exact absurd parked Bool.false_ne_true

theorem keeps_wakeAndCall {s : State} (parked : s.mbr.station.parked = true) (w : WakeSource) :
    Keeps s (s.wakeAndCall w) := (keeps_wakeUp (parked_silent parked) w).trans (same_ask _ _).keeps

theorem keeps_wakeEnd (s : State) : Keeps s s.wakeEnd := by
  unfold State.wakeEnd
  split
  · exact .refl s
  · split
    next parked => exact keeps_wakeAndCall parked _
    next => exact (same_setMbr s _).keeps

theorem keeps_wakePin (s : State) : Keeps s s.wakePin := by
  unfold State.wakePin
  split
  next parked => exact keeps_wakeAndCall parked _
  next => exact .refl s

theorem keeps_freezeSample (s : State) (n : BitVec 12) : Keeps s (s.freezeSample n) := by
  unfold State.freezeSample
  split
  · exact .refl s
  · split
    next light =>
      have read := same_setZlp s { s.zlp with zone := s.readReturn n }
      have silent : (s.setZlp { s.zlp with zone := s.readReturn n }).mbr.station.drives = false :=
        parked_silent (by rw [State.setZlp_mbr, light]; rfl)
      exact ((read.keeps.trans (keeps_wakeUp silent _)).trans (same_setMbr _ _).keeps).ite
        (read.trans (same_setMbr _ _)).keeps
    next => exact (same_setMbr s _).keeps

/-! ### Channels -/

@[simp] theorem amounts_switchOff (d : Drives) (ch : DutyChannel) (k : Nat) (other : DutyChannel) :
    ((d.switchOff ch k).channel other).amounts = (d.channel other).amounts := by
  by_cases here : other = ch
  · rw [here, channel_switchOff]
    rfl
  · rw [channel_switchOff_other _ _ here]

/-- A channel replaced by one of the same amounts. -/
theorem amounts_setChannel (d : Drives) {ch : DutyChannel} {c : Channel}
    (same : c.amounts = (d.channel ch).amounts) (other : DutyChannel) :
    ((d.setChannel ch c).channel other).amounts = (d.channel other).amounts := by
  by_cases here : other = ch
  · rw [here, channel_setChannel, same]
  · rw [channel_setChannel_other _ _ here]

/-- R146, R151: the start of a period leaves cap and duties. -/
theorem amounts_beginPeriod (d : Drives) (ch : DutyChannel) (k : Nat) (other : DutyChannel) :
    ((d.beginPeriod ch k).channel other).amounts = (d.channel other).amounts := by
  have deferring (x : Drives) (b : Bool) :
      (({ x with deferred := b } : Drives).channel other).amounts = (x.channel other).amounts := by
    cases other <;> rfl
  have begun (c : Channel) (same : c.amounts = (d.channel ch).amounts) :
      ((d.setChannel ch c).channel other).amounts = (d.channel other).amounts :=
    amounts_setChannel d same other
  cases ch with
  | coolValve =>
    unfold Drives.beginPeriod
    dsimp only
    split
    · rw [deferring, amounts_switchOff]
    · split
      · rw [deferring]
      · split
        · rw [deferring]
        · rw [deferring]
          exact begun _ rfl
  | blower =>
    unfold Drives.beginPeriod
    dsimp only
    split
    · exact amounts_switchOff d _ k other
    · exact begun _ rfl
  | heatValve =>
    unfold Drives.beginPeriod
    dsimp only
    split
    · exact amounts_switchOff d _ k other
    · exact begun _ rfl

theorem keeps_onTimePassed (s : State) (ch : DutyChannel) : Keeps s (s.onTimePassed ch) := by
  refine keeps_changeDrives (fun other => ?_) (.inl ?_) <;> unfold Drives.onTimePassed <;>
    dsimp only <;> split
  · exact amounts_switchOff _ _ _ _
  · rfl
  · rw [switchOff_fan]
  · rfl

/-- R146: the start of a period leaves the blower's watch. -/
theorem beginPeriod_fan (d : Drives) (ch : DutyChannel) (k : Nat) :
    (d.beginPeriod ch k).fan = d.fan := by
  cases ch <;> unfold Drives.beginPeriod <;> dsimp only <;> split
  case coolValve.isFalse =>
    split
    · rfl
    · split
      · rfl
      · exact setChannel_fan d _ _
  all_goals simp

/-- R146, R147: a higher buffered duty loads within the cap. -/
theorem keeps_periodEnded (s : State) (ch : DutyChannel) : Keeps s (s.periodEnded ch) := by
  have loaded : ∀ other, ((s.dcc.periodEnd ch s.clock).channel other).amounts =
      (s.dcc.channel other).amounts ∨ ((s.dcc.periodEnd ch s.clock).channel other).amounts =
        ((s.dcc.channel other).cap, max (s.dcc.channel other).active (s.dcc.channel other).buffered,
          (s.dcc.channel other).buffered) := by
    intro other
    unfold Drives.periodEnd
    dsimp only
    split
    · exact .inl rfl
    · rw [amounts_beginPeriod]
      by_cases here : other = ch
      · rw [here, channel_setChannel]
        exact .inr rfl
      · rw [channel_setChannel_other _ _ here]
        exact .inl rfl
  have condition : (s.dcc.periodEnd ch s.clock).fan.condition = s.dcc.fan.condition := by
    unfold Drives.periodEnd
    dsimp only
    split
    · rfl
    · rw [beginPeriod_fan, setChannel_fan]
  refine keeps_setDcc (fun other => ?_) (fun other => ?_) (fun other => ?_) (.inl ?_)
  · rw [channel_rewatch]
    rcases loaded other with same | higher
    · exact congrArg Prod.fst same
    · exact congrArg Prod.fst higher
  · rw [channel_rewatch]
    rcases loaded other with same | higher
    · exact (withinCap_congr same).mpr
    · simp only [Channel.amounts, Prod.mk.injEq] at higher
      obtain ⟨cap, active, buffered⟩ := higher
      rintro ⟨activeLe, bufferedLe⟩
      rw [Channel.WithinCap, cap, active, buffered]
      exact ⟨Nat.max_le.mpr ⟨activeLe, bufferedLe⟩, bufferedLe⟩
  · rw [channel_rewatch]
    rcases loaded other with same | higher
    · exact (quiet_congr same).mpr
    · simp only [Channel.amounts, Prod.mk.injEq] at higher
      obtain ⟨-, active, buffered⟩ := higher
      rintro ⟨activeZero, bufferedZero⟩
      rw [Channel.Quiet, active, buffered, activeZero, bufferedZero]
      exact ⟨rfl, rfl⟩
  · rw [rewatch_condition, condition]

theorem keeps_restEnd (s : State) : Keeps s (s.changeDrives Drives.restEnd) := by
  refine keeps_changeDrives (fun other => ?_) (.inl ?_) <;> unfold Drives.restEnd <;> split
  · rfl
  · cases other with
    | coolValve =>
      exact (apply_ite Channel.amounts _ _ _).trans (ite_self _)
    | _ => rfl
  · rfl
  · rfl

/-- R161: a stall forces the blower off. -/
theorem keeps_stalled (s : State) : Keeps s s.stalled := by
  unfold State.stalled
  split
  · exact .refl s
  · dsimp only
    refine Keeps.trans ?_ (keeps_blowerReport _)
    refine Keeps.trans ?_ ((same_raise _ _ _ _ _ _).andThen (same_raise _ _ _ _ _ _)).keeps
    have blower := channel_forceOff s.dcc .blower s.clock
    have others {ch : DutyChannel} (other : ch ≠ .blower) :=
      channel_forceOff_other s.dcc s.clock other
    have same (b : Blower) (ch : DutyChannel) :
        ({ s.dcc.forceOff .blower s.clock with fan := b } : Drives).channel ch =
          (s.dcc.forceOff .blower s.clock).channel ch := by cases ch <;> rfl
    refine keeps_setDcc (fun ch => ?_) (fun ch => ?_) (fun ch => ?_) (.inr (.inr ?_))
    all_goals rw [channel_rewatch, same]
    · by_cases here : ch = .blower
      · rw [here, blower]
      · rw [others here]
    · by_cases here : ch = .blower
      · rw [here, blower]
        exact fun _ => ⟨Nat.zero_le _, Nat.zero_le _⟩
      · rw [others here]
        exact id
    · by_cases here : ch = .blower
      · rw [here, blower]
        exact fun _ => ⟨rfl, rfl⟩
      · rw [others here]
        exact id
    · rw [blower]
      exact ⟨rfl, rfl⟩

/-- A change of the blower's condition to RUNNING, or none. -/
theorem keeps_changeFan {s : State} {f : Drives → Drives}
    (channel : ∀ ch, (f s.dcc).channel ch = s.dcc.channel ch)
    (condition : (f s.dcc).fan.condition = s.dcc.fan.condition ∨
      (f s.dcc).fan.condition = .running) : Keeps s (s.changeDrives f) :=
  keeps_changeDrives (fun ch => congrArg _ (channel ch)) condition

theorem keeps_restartEnd (s : State) : Keeps s s.restartEnd := by
  unfold State.restartEnd
  split
  · exact .refl s
  · refine Keeps.trans (keeps_changeFan (fun ch => by cases ch <;> rfl) ?_) (keeps_blowerReport _)
    show (if _ then _ else _) = _ ∨ (if _ then _ else _) = _
    split
    · exact .inr rfl
    · exact .inl rfl

theorem same_goodRun (s : State) : SameBounds s s.goodRun := by
  unfold State.goodRun
  split
  · exact .refl s
  · exact same_setFan (fun ch => by cases ch <;> rfl) rfl

theorem same_tach (s : State) : SameBounds s s.tach := by
  have seen : SameBounds s (s.drawn.setDcc (s.dcc.edgeSeen s.clock s.free)) :=
    (same_drawn s).trans (same_setFan (fun ch => by cases ch <;> rfl) rfl)
  exact (seen.andThen (same_raise _ _ _ _ _ _)).ite (.refl s)

theorem same_stepDone (s : State) (endStop : Bool) : SameBounds s (s.stepDone endStop) :=
  (same_changeDamper s _).andThen (same_raise _ _ _ _ _ _)

theorem same_deadDone (s : State) : SameBounds s s.deadDone := same_changeDamper s _

theorem same_endStopActive (s : State) : SameBounds s s.endStopActive :=
  (same_changeDamper s _).ite ((same_changeDamper s _).trans (same_changeDamper _ _))

/-- R163: CLEAR FAULT. -/
theorem keeps_clearFaults (s : State) : Keeps s s.clearFaults := by
  unfold State.clearFaults
  have latches : Keeps s (s.changeDrives Drives.clearLatches) := by
    refine keeps_changeFan (fun ch => by cases ch <;> rfl) ?_
    show (if _ then _ else _) = _ ∨ (if _ then _ else _) = _
    split
    · exact .inr rfl
    · exact .inl rfl
  have reported := (latches.trans (keeps_blowerReport _)).ite
    (p := s.dcc.fan.condition = .fault) latches
  exact (reported.trans (same_homeDamper _).keeps).ite reported

/-! ### Commands -/

theorem keeps_obey (s : State) (c : ServiceCommand) : Keeps s (s.obey c) := by
  cases c with
  | setpointSet v m => exact (same_ask s _).keeps
  | park d w => exact (same_ask s _).keeps
  | offsetSet x => exact (same_setSvc s _).keeps
  | events => exact (same_setSvc s _).keeps
  | mask m => exact (same_setSvc s _).keeps
  | clearCounters => exact (same_setLnk s _).keeps
  | cause => exact (same_setSup s _).keeps
  | clearFault => exact keeps_clearFaults s
  | _ => exact .refl s

theorem Served.keeps {s t : State} (served : Served s t) : Keeps s t := by
  have answered {x : State} (port : PortMove x t) : Keeps x t := by
    rw [port.rest]
    exact (same_setSvc x _).keeps
  cases served with
  | answered port => exact answered port
  | obeyed c _ _ port => exact (keeps_obey s c).trans (answered port)

/-- Every command but those of the Supply Monitor and the Configuration Reader keeps the bounds of the blocks. -/
theorem effect_keeps {c : Instr} (noMonitor : monitors c = false) (noReader : reads c = false)
    (s : State) : Keeps s (effect c s) := by
  cases service : serves c with
  | true => exact (effect_served service s).keeps
  | false =>
  cases c with
  | linkIdle => exact (same_lineIdle s).keeps
  | transmissionStart => exact (keeps_offer 12 s).ite (.refl s)
  | arbitrationLost => exact (same_loseArbitration s).keeps
  | bitError => exact keeps_bitError s
  | framingFailure cause => exact keeps_framingFailure s cause
  | requestJudged heard =>
    cases heard with
    | none => exact (same_judgeOwn s).keeps
    | some b => exact (same_judgeHeard s b).keeps
  | malformedArrival kind body slots => exact keeps_arrive s kind body slots
  | voidArrival kind body slots => exact keeps_arrive s kind body slots
  | addressClash kind body slots => exact keeps_arrive s kind body slots
  | requestArrival body slots => exact keeps_arrive s 4#3 body slots
  | releaseArrival body slots => exact keeps_arrive s 3#3 body slots
  | supplyArrival body slots => exact keeps_arrive s 2#3 body slots
  | setpointArrival body slots => exact keeps_arrive s 5#3 body slots
  | stateArrival body slots => exact keeps_arrive s 6#3 body slots
  | joinArrival body slots => exact keeps_arrive s 7#3 body slots
  | parkArrival body slots => exact keeps_arrive s 0#3 body slots
  | wakeArrival body slots => exact keeps_arrive s 1#3 body slots
  | ownRequestCompletion ack veto => exact keeps_requestDone s ack veto
  | ownReleaseCompletion ack => exact keeps_releaseDone s ack
  | ownSupplyCompletion ack => exact keeps_supplyDone s ack
  | ownSetpointCompletion ack => exact keeps_setpointDone s ack
  | ownParkCompletion ack => exact keeps_parkDone s ack
  | ownJoinCompletion ack => exact keeps_joinDone s ack
  | ownStateCompletion ack => exact keeps_stateDone s ack
  | ownWakeCompletion ack => exact keeps_wakeDone s ack
  | voidCompletion => exact keeps_voidDone s
  | ageTickExpiry => exact keeps_ageTick s
  | untrackedTimerExpiry => exact (same_untrackedEnd s).keeps
  | supplyTimerExpiry r => exact (same_supplyExpired s r).keeps
  | stateTimerExpiry => exact (same_stateExpired s).keeps
  | refusalHoldOffExpiry r => exact (same_setTxq s _).keeps
  | spacingExpiry r => exact (same_setTxq s _).keeps
  | settleTimerExpiry => exact keeps_settled s
  | censusTimerExpiry => exact keeps_censusEnd s
  | selfSilenceExpiry => exact keeps_silenceEnd s
  | quietTimerExpiry => exact keeps_quietEnd s
  | wakeTimerExpiry => exact keeps_wakeEnd s
  | sampleTimerExpiry count => exact keeps_freezeSample s count
  | wakeinActive => exact keeps_wakePin s
  | controlIntervalExpiry => exact keeps_interval s
  | switchTimerExpiry => exact (same_setZlp s _).keeps
  | boostTimerExpiry => exact (same_setZlp s _).keeps
  | frostTimerExpiry => exact (same_setZlp s _).keeps
  | doorInputChange active => exact (same_doorChange s active).keeps
  | holdTimerExpiry => exact (same_holdEnd s).keeps
  | sensorSample sensor count => exact (same_sensorSample s sensor count).keeps
  | periodEnd ch => exact keeps_periodEnded s ch
  | coolValveRestEnd => exact keeps_restEnd s
  | stepTimerExpiry endStop => exact (same_stepDone s endStop).keeps
  | deadTimerExpiry => exact (same_deadDone s).keeps
  | dmpendActive => exact (same_endStopActive s).keeps
  | tachEdge => exact (same_tach s).keeps
  | stallTimerExpiry => exact keeps_stalled s
  | restartTimerExpiry => exact keeps_restartEnd s
  | goodRunTimerExpiry => exact (same_goodRun s).keeps
  | startBitRead => exact (same_startBitRead s).keeps
  | dominantBitInSeekingIdle endBit => exact (same_dominantBit s endBit).keeps
  | onTimePassed ch => exact keeps_onTimePassed s ch
  | vlogFall | vlogRise | resetnLow | resetnHigh | supplySample _ | recoveryTimerExpiry =>
    cases noMonitor
  | readyPollStatus _ | configReadEnd _ | configReadTimeout => cases noReader
  | _ => cases service

end Sys2Proof.Machine
end

section
/-! SUPPORT. What stands while the configuration block is read: with the station in CONFIG_READ, the link OFF and no image, no command but those of the Supply Monitor and the Configuration Reader moves station, link, caps or overdraw flags. -/

namespace Sys2Proof.Machine

/-- R105, R175, R178: the station in CONFIG_READ, the link OFF and no image. -/
structure State.Blank (s : State) : Prop where
  station : s.mbr.station = .configRead
  link : s.lnk.state = .off
  image : s.cfg.image = none

theorem readingBlank_iff (s : State) : s.ReadingBlank ↔ (s.reading = true → s.Blank) :=
  forall_congr' fun _ => ⟨fun ⟨station, link, image⟩ => ⟨station, link, image⟩,
    fun ⟨station, link, image⟩ => ⟨station, link, image⟩⟩

/-- The change leaves station, link and caps, and sets no overdraw flag while they agree. -/
structure Idles (s t : State) : Prop where
  station : t.mbr.station = s.mbr.station
  link : t.lnk.state = s.lnk.state
  cap : ∀ ch, (t.dcc.channel ch).cap = (s.dcc.channel ch).cap
  flags : s.OverdrawAgrees → s.cjg.overdraw = .all false → t.cjg.overdraw = .all false

theorem Idles.refl (s : State) : Idles s s := ⟨rfl, rfl, fun _ => rfl, fun _ => id⟩

theorem SameBounds.idles {s t : State} (h : SameBounds s t)
    (link : t.lnk.state = s.lnk.state := by rfl) : Idles s t :=
  ⟨h.station, link, fun ch => congrArg Prod.fst (h.amounts ch), fun _ => h.overdraw.trans⟩

theorem idles_of_eq {s t : State} (same : t = s) : Idles s t := same ▸ .refl s

/-- A change of the channels that leaves their caps. -/
theorem idles_changeDrives {s : State} {f : Drives → Drives}
    (cap : ∀ ch, ((f s.dcc).channel ch).cap = (s.dcc.channel ch).cap) : Idles s (s.changeDrives f) :=
  ⟨rfl, rfl, fun ch => (congrArg _ (channel_rewatch _ _ _ ch)).trans (cap ch), fun _ => id⟩

theorem cap_of_amounts {c d : Channel} (same : d.amounts = c.amounts) : d.cap = c.cap :=
  congrArg Prod.fst same

/-! ### The line is OFF -/

theorem arrive_of_off {s : State} (link : s.lnk.state = .off) (kind : BitVec 3) (b : RxBody)
    (slots : Slots) : s.arrive kind b slots = s := by
  rw [State.arrive, link, if_pos (by decide)]

theorem sending_of_off {s : State} (link : s.lnk.state = .off) : s.sending = none := by
  rw [State.sending, link, if_neg (by decide)]

/-! ### The age tick -/

/-- R41, R42: outside MEMBER an overdraw flag alone moves. -/
theorem evalOverdraw_dcc {s : State} (notMember : s.isMember = false) (r : Resource) :
    (s.evalOverdraw r).dcc = s.dcc := by
  unfold State.evalOverdraw
  dsimp only
  split
  · split
    · rfl
    · rw [if_neg (by rw [Bool.not_eq_true]; exact notMember)]
      rfl
  · split <;> rfl

theorem tableChanged_dcc {s : State} (notMember : s.isMember = false) :
    s.tableChanged.dcc = s.dcc := by
  have stays (x : State) (member : x.isMember = false) (r : Resource) :
      (x.evalOverdraw r).isMember = false := by
    rw [State.isMember, (evalOverdraw_notice x r).mbr]
    exact member
  have cool := stays s notMember .cool
  rw [State.tableChanged, evalOverdraw_dcc (stays _ cool .heat), evalOverdraw_dcc cool,
    evalOverdraw_dcc notMember]

/-- The committed draw of an entry where it counts. -/
def Entry.counts (e : Entry) (r : Resource) : Nat := if e.present then e.committed.get r else 0

theorem sum_present (es : List Entry) (r : Resource) :
    ((es.filter (·.present)).map fun e => e.committed.get r).sum = (es.map (·.counts r)).sum := by
  induction es with
  | nil => rfl
  | cons e es ih =>
    by_cases present : e.present = true
    · rw [List.filter_cons_of_pos present, List.map_cons, List.map_cons, List.sum_cons,
        List.sum_cons, ih, Entry.counts, if_pos present]
    · rw [List.filter_cons_of_neg present, List.map_cons, List.sum_cons, ih, Entry.counts,
        if_neg present, Nat.zero_add]

/-- R14 to R16: no entry counts for more after a tick. -/
theorem counts_ticked_le {e x : Entry} (ticked : e.ticked = some x) (r : Resource) :
    x.counts r ≤ e.counts r := by
  unfold Entry.ticked at ticked
  split at ticked
  · split at ticked
    · rw [← Option.some.inj ticked]
      exact Nat.zero_le _
    · cases ticked
  · split at ticked <;> rw [← Option.some.inj ticked] <;> exact Nat.le_refl _

theorem sum_ticked_le (es : List Entry) (r : Resource) :
    ((es.filterMap Entry.ticked).map (·.counts r)).sum ≤ (es.map (·.counts r)).sum := by
  induction es with
  | nil => exact Nat.le_refl _
  | cons e es ih =>
    rw [List.filterMap_cons, List.map_cons, List.sum_cons]
    cases ticked : e.ticked with
    | none => exact ih.trans (Nat.le_add_left _ _)
    | some x =>
      rw [List.map_cons, List.sum_cons]
      exact Nat.add_le_add (counts_ticked_le ticked r) ih

/-- R17: no total grows at an age tick. -/
theorem total_ticked_le (t : ShareTable) (timer : Timer) (r : Resource) :
    (t.ticked timer).total r ≤ t.total r := by
  have self : ((t.self.map Entry.outdoorAged).toList.map fun e => e.committed.get r) =
      t.self.toList.map fun e => e.committed.get r := by cases t.self <;> rfl
  simp only [ShareTable.total, ShareTable.counted, ShareTable.ticked, List.map_append,
    List.sum_append, self, sum_present]
  exact Nat.add_le_add_left (sum_ticked_le t.order r) _

theorem lapses_link (as : List Nat) (s : State) :
    (as.foldl State.raiseLapsed s).lnk.state = s.lnk.state := by
  induction as generalizing s with
  | nil => rfl
  | cons a as ih =>
    refine (ih _).trans ?_
    unfold State.raiseLapsed State.bump
    split <;> rfl

/-- R14, R19: a tick outside MEMBER leaves the caps, and sets no flag while they agree. -/
theorem idles_ageTick {s : State} (notMember : s.isMember = false) : Idles s s.ageTick := by
  unfold State.ageTick
  split
  · exact .refl s
  · dsimp only
    have lapses := same_lapses ((s.stb.order.filter Entry.lapses).map (·.address))
      (s.setStb (s.stb.ticked (s.after Config.ageTick)))
    have link := lapses_link ((s.stb.order.filter Entry.lapses).map (·.address))
      (s.setStb (s.stb.ticked (s.after Config.ageTick)))
    generalize ((s.stb.order.filter Entry.lapses).map (·.address)).foldl State.raiseLapsed
      (s.setStb (s.stb.ticked (s.after Config.ageTick))) = x at lapses link ⊢
    have notice := tableChanged_notice x
    refine ⟨?_, ?_, fun ch => ?_, fun agrees clear => ?_⟩
    · rw [notice.mbr, lapses.station]; rfl
    · rw [notice.lnk, link]; rfl
    · have member : x.isMember = false := by
        rw [State.isMember, lapses.station]
        exact notMember
      rw [tableChanged_dcc member]
      exact cap_of_amounts (lapses.amounts ch)
    · have fits (r : Resource) : s.stb.total r ≤ (s.csr.capacity.get r).value := by
        have flag := agrees r
        rw [clear] at flag
        refine Nat.le_of_not_lt fun above => ?_
        rw [decide_eq_true above] at flag
        cases r <;> cases flag
      have agreesX : x.OverdrawAgrees := fun r => by
        have lower : x.stb.total r ≤ (x.csr.capacity.get r).value := by
          rw [total_congr lapses.drawn lapses.order, lapses.capacity]
          exact (total_ticked_le s.stb _ r).trans (fits r)
        rw [lapses.overdraw, decide_eq_false (Nat.not_lt.mpr lower)]
        show s.cjg.overdraw.get r = false
        rw [clear]
        cases r <;> rfl
      rw [tableChanged_same agreesX, lapses.overdraw]
      exact clear

/-! ### Commands -/

theorem not_member_of_blank {s : State} (blank : s.Blank) : s.isMember = false := by
  rw [State.isMember, blank.station]; rfl

theorem blowerReport_of_blank {s : State} (blank : s.Blank) : s.blowerReport = s := by
  rw [State.blowerReport, not_member_of_blank blank, Bool.false_and, if_neg (by decide),
    recomputeCaps_of_no_image blank.image]

/-- R144: a report where no image is valid changes nothing. -/
theorem idles_reported {s x : State} (blank : s.Blank) (cfg : x.cfg = s.cfg) (idles : Idles s x) :
    Idles s x.blowerReport := by
  rw [blowerReport_of_blank ⟨idles.station.trans blank.station, idles.link.trans blank.link,
    cfg ▸ blank.image⟩]
  exact idles

theorem idles_stalled {s : State} (blank : s.Blank) : Idles s s.stalled := by
  unfold State.stalled
  split
  · exact .refl s
  · have cap (ch : DutyChannel) :
        (({ s.dcc.forceOff .blower s.clock with
          fan := (s.dcc.forceOff .blower s.clock).fan.stall s.clock } : Drives).channel ch).cap =
          (s.dcc.channel ch).cap := by
      cases ch with
      | blower => exact congrArg (·.cap) (channel_forceOff s.dcc .blower s.clock)
      | heatValve =>
        exact congrArg (·.cap) (channel_forceOff_other s.dcc (ch := .blower) (other := .heatValve)
          s.clock nofun)
      | coolValve =>
        exact congrArg (·.cap) (channel_forceOff_other s.dcc (ch := .blower) (other := .coolValve)
          s.clock nofun)
    have stopped : Idles s (s.changeDrives fun d =>
        { d.forceOff .blower s.clock with fan := (d.forceOff .blower s.clock).fan.stall s.clock }) :=
      idles_changeDrives cap
    refine idles_reported blank ?_ ?_
    · exact ((outer_changeDrives s _).trans (outer_raiseStall _)).cfg
    · dsimp only
      unfold State.raiseStall
      dsimp only
      split <;> exact ⟨stopped.station, stopped.link, stopped.cap, stopped.flags⟩

theorem idles_restartEnd {s : State} (blank : s.Blank) : Idles s s.restartEnd := by
  unfold State.restartEnd
  split
  · exact .refl s
  · exact idles_reported blank (outer_changeDrives s _).cfg
      (idles_changeDrives fun ch => by cases ch <;> rfl)

theorem idles_periodEnded (s : State) (ch : DutyChannel) : Idles s (s.periodEnded ch) := by
  refine idles_changeDrives fun other => ?_
  unfold Drives.periodEnd
  dsimp only
  split
  · rfl
  · refine (cap_of_amounts (amounts_beginPeriod _ _ _ _)).trans ?_
    by_cases here : other = ch
    · rw [here, channel_setChannel]
    · rw [channel_setChannel_other _ _ here]

theorem idles_onTimePassed (s : State) (ch : DutyChannel) : Idles s (s.onTimePassed ch) := by
  refine idles_changeDrives fun other => ?_
  unfold Drives.onTimePassed
  dsimp only
  split
  · exact cap_of_amounts (amounts_switchOff _ _ _ _)
  · rfl

theorem idles_restEnd (s : State) : Idles s (s.changeDrives Drives.restEnd) := by
  refine idles_changeDrives fun other => ?_
  unfold Drives.restEnd
  split
  · rfl
  · cases other with
    | coolValve => exact (apply_ite Channel.cap _ _ _).trans (ite_self _)
    | _ => rfl

/-- R183: in CONFIG_READ the Service Line lets STATUS and CAUSE through. -/
theorem Served.idles {s t : State} (served : Served s t) (blank : s.Blank) : Idles s t := by
  have answered {x : State} (same : SameBounds s x) (link : x.lnk = s.lnk) (port : PortMove x t) :
      Idles s t := by
    rw [port.rest]
    exact (same.trans (same_setSvc x _)).idles (congrArg _ link)
  cases served with
  | answered port => exact answered (.refl s) rfl port
  | obeyed c _ ready port =>
    obtain rfl | rfl := ready (by rw [blank.station]; rfl)
    · exact answered (.refl s) rfl port
    · exact answered (same_setSup s { s.sup with cause := .none }) rfl port

theorem untrackedEnd_lnk (s : State) : s.untrackedEnd.lnk = s.lnk := by
  unfold State.untrackedEnd
  split <;> rfl

theorem supplyExpired_lnk (s : State) (r : Resource) : (s.supplyExpired r).lnk = s.lnk := by
  unfold State.supplyExpired
  split
  · rfl
  · rfl
  · dsimp only
    split <;> rfl

theorem stateExpired_lnk (s : State) : s.stateExpired.lnk = s.lnk := by
  unfold State.stateExpired
  split
  · rfl
  · dsimp only
    split <;> rfl

theorem stepDone_lnk (s : State) (endStop : Bool) : (s.stepDone endStop).lnk = s.lnk := by
  unfold State.stepDone
  dsimp only
  split <;> rfl

theorem endStopActive_lnk (s : State) : s.endStopActive.lnk = s.lnk := by
  unfold State.endStopActive
  dsimp only
  split <;> rfl

theorem goodRun_lnk (s : State) : s.goodRun.lnk = s.lnk := by
  unfold State.goodRun
  split <;> rfl

theorem holdEnd_lnk (s : State) : s.holdEnd.lnk = s.lnk := by
  unfold State.holdEnd State.endDoorHold
  split
  · rfl
  · dsimp only
    split
    · split <;> rfl
    · rfl

/-- R134: without an image the door input is noted only. -/
theorem doorChange_lnk {s : State} (image : s.cfg.image = none) (active : Bool) :
    (s.doorChange active).lnk = s.lnk := by
  have noted : (s.setZlp { s.zlp with doorActive := active }).doorHeld active =
      s.setZlp { s.zlp with doorActive := active } := by
    unfold State.doorHeld
    rw [State.setZlp_cfg, image]
  unfold State.doorChange
  dsimp only
  rw [noted]
  split
  · rfl
  · split <;> rfl

/-- The timers of the Membership Controller in CONFIG_READ. -/
theorem idles_stationTimers {s : State} (station : s.mbr.station = .configRead) :
    Idles s s.settled ∧ Idles s s.censusEnd ∧ Idles s s.silenceEnd ∧ Idles s s.quietEnd ∧
      Idles s s.wakeEnd ∧ ∀ n, Idles s (s.freezeSample n) := by
  refine ⟨?_, ?_, ?_, ?_, ?_, fun n => ?_⟩
  · unfold State.settled
    split
    · exact .refl s
    · rw [if_neg (by rw [station]; decide)]
      exact (same_setMbr s _).idles
  · unfold State.censusEnd
    split
    · exact .refl s
    · rw [if_neg (by rw [station]; decide)]
      exact (same_setMbr s _).idles
  · unfold State.silenceEnd
    split
    · exact .refl s
    · exact .refl s
    · dsimp only
      rw [if_neg (by simp [State.isMember, station])]
      exact (same_setMbr s _).idles
  · unfold State.quietEnd
    split
    · exact .refl s
    · rw [if_neg (by rw [station]; decide)]
      exact (same_setLnk s _).idles
  · unfold State.wakeEnd
    split
    · exact .refl s
    · rw [if_neg (by rw [station]; decide)]
      exact (same_setMbr s _).idles
  · unfold State.freezeSample
    split
    · exact .refl s
    · rw [if_neg (by rw [station]; decide)]
      exact (same_setMbr s _).idles

/-- R126: without an image the interval timer alone stops. -/
theorem idles_interval {s : State} (image : s.cfg.image = none) : Idles s s.interval := by
  unfold State.interval
  split
  · exact .refl s
  · dsimp only
    rw [image]
    exact (same_setZlp s _).idles

/-- While the block is read no command moves station, link, caps or overdraw flags. -/
theorem effect_idles {c : Instr} (noMonitor : monitors c = false) (noReader : reads c = false)
    {s : State} (blank : s.Blank) : Idles s (effect c s) := by
  obtain ⟨station, link, image⟩ := blank
  have notMember := not_member_of_blank ⟨station, link, image⟩
  have sending := sending_of_off link
  obtain ⟨settled, census, silence, quiet, wake, sample⟩ := idles_stationTimers station
  cases service : serves c with
  | true => exact (effect_served service s).idles ⟨station, link, image⟩
  | false =>
  cases c with
  | linkIdle => exact idles_of_eq (by simp [effect, State.lineIdle, link])
  | transmissionStart => exact idles_of_eq (by simp [effect, State.transmit, link])
  | arbitrationLost => exact idles_of_eq (by simp [effect, State.loseArbitration, link])
  | bitError => exact idles_of_eq (by simp [effect, State.bitError, link])
  | framingFailure cause => exact idles_of_eq (by simp [effect, State.framingFailure, link])
  | startBitRead => exact idles_of_eq (by simp [effect, State.startBitRead, link])
  | dominantBitInSeekingIdle endBit =>
    exact idles_of_eq (by cases endBit <;> simp [effect, State.dominantBit, link])
  | requestJudged heard =>
    cases heard with
    | none => exact idles_of_eq (by simp [effect, State.judgeOwn, link])
    | some b => exact idles_of_eq (by simp [effect, State.judgeHeard, link])
  | malformedArrival | voidArrival | addressClash | requestArrival | releaseArrival
  | supplyArrival | setpointArrival | stateArrival | joinArrival | parkArrival | wakeArrival =>
    exact idles_of_eq (arrive_of_off link _ _ _)
  | ownRequestCompletion | ownReleaseCompletion | ownSupplyCompletion | ownSetpointCompletion
  | ownParkCompletion | ownJoinCompletion | ownStateCompletion | ownWakeCompletion
  | voidCompletion =>
    refine idles_of_eq ?_
    simp [effect, State.requestDone, State.releaseDone, State.supplyDone, State.setpointDone,
      State.parkDone, State.joinDone, State.stateDone, State.wakeDone, State.voidDone, sending]
  | ageTickExpiry => exact idles_ageTick notMember
  | untrackedTimerExpiry => exact (same_untrackedEnd s).idles (congrArg _ (untrackedEnd_lnk s))
  | supplyTimerExpiry r =>
    exact (same_supplyExpired s r).idles (congrArg _ (supplyExpired_lnk s r))
  | stateTimerExpiry =>
    exact (same_stateExpired s).idles (congrArg _ (stateExpired_lnk s))
  | refusalHoldOffExpiry r => exact (same_setTxq s _).idles
  | spacingExpiry r => exact (same_setTxq s _).idles
  | settleTimerExpiry => exact settled
  | censusTimerExpiry => exact census
  | selfSilenceExpiry => exact silence
  | quietTimerExpiry => exact quiet
  | wakeTimerExpiry => exact wake
  | sampleTimerExpiry count => exact sample count
  | wakeinActive => exact idles_of_eq (by simp [effect, State.wakePin, station, Station.parked])
  | controlIntervalExpiry => exact idles_interval image
  | switchTimerExpiry => exact (same_setZlp s _).idles
  | boostTimerExpiry => exact (same_setZlp s _).idles
  | frostTimerExpiry => exact (same_setZlp s _).idles
  | doorInputChange active =>
    exact (same_doorChange s active).idles (congrArg _ (doorChange_lnk image active))
  | holdTimerExpiry => exact (same_holdEnd s).idles (congrArg _ (holdEnd_lnk s))
  | sensorSample sensor count => exact idles_of_eq (by simp [effect, State.sensorSample, image])
  | periodEnd ch => exact idles_periodEnded s ch
  | coolValveRestEnd => exact idles_restEnd s
  | stepTimerExpiry endStop => exact (same_stepDone s endStop).idles (congrArg _ (stepDone_lnk s endStop))
  | deadTimerExpiry => exact (same_deadDone s).idles
  | dmpendActive => exact (same_endStopActive s).idles (congrArg _ (endStopActive_lnk s))
  | tachEdge => exact idles_of_eq (by simp [effect, State.tach, State.captures, image])
  | stallTimerExpiry => exact idles_stalled ⟨station, link, image⟩
  | restartTimerExpiry => exact idles_restartEnd ⟨station, link, image⟩
  | goodRunTimerExpiry => exact (same_goodRun s).idles (congrArg _ (goodRun_lnk s))
  | onTimePassed ch => exact idles_onTimePassed s ch
  | vlogFall | vlogRise | resetnLow | resetnHigh | supplySample _ | recoveryTimerExpiry =>
    cases noMonitor
  | readyPollStatus _ | configReadEnd _ | configReadTimeout => cases noReader
  | _ => cases service

end Sys2Proof.Machine
end

section
/-! SUPPORT. The rule by which a bound of the blocks holds after every step: what a step keeps, the restarts, and the three moves of the Configuration Reader. -/

namespace Sys2Proof.Machine

/-- What a change that is neither a restart nor a move of the Configuration Reader keeps. -/
structure Steps (s t : State) : Prop extends Keeps s t where
  idles : s.Blank → Idles s t

theorem SameBounds.steps {s t : State} (h : SameBounds s t)
    (link : t.lnk.state = s.lnk.state := by rfl) : Steps s t := ⟨h.keeps, fun _ => h.idles link⟩

/-- R19: notices where no image is valid and the station is in CONFIG_READ. -/
theorem idles_selfChanged {s y : State} (blank : s.Blank) (bounds : SameBounds s y)
    (link : y.lnk.state = s.lnk.state) : Idles s y.selfChanged := by
  have member : y.isMember = false := by
    rw [State.isMember, bounds.station]
    exact not_member_of_blank blank
  have notice := tableChanged_notice y
  have image : y.tableChanged.cfg.image = none := by
    rw [notice.cfg, bounds.cfg]
    exact blank.image
  rw [State.selfChanged, recomputeCaps_of_no_image image]
  refine ⟨?_, ?_, fun ch => ?_, fun agrees clear => ?_⟩
  · rw [notice.mbr, bounds.station]
  · rw [notice.lnk, link]
  · rw [tableChanged_dcc member]
    exact cap_of_amounts (bounds.amounts ch)
  · rw [tableChanged_same (bounds.agrees agrees), bounds.overdraw]
    exact clear

/-- R168: a change of the shed flag where no image is valid. -/
theorem idles_setShed {s x : State} (blank : s.Blank) (bounds : SameBounds s x)
    (link : x.lnk.state = s.lnk.state) (b : Bool) : Idles s (x.setShed b) := by
  have station : x.mbr.station = .configRead := bounds.station.trans blank.station
  have flagged := bounds.trans (same_mapSelf x fun e => { e with shed := b })
  have member : (x.mapSelf fun e => { e with shed := b }).isMember = false := by
    rw [State.isMember, flagged.station]
    exact not_member_of_blank blank
  unfold State.setShed
  split
  · exact bounds.idles link
  · dsimp only
    rw [member, Bool.and_false]
    have silent : ¬ (x.mapSelf fun e => { e with shed := b }).mbr.station.drives = true := by
      rw [flagged.station, blank.station]
      decide
    simp only [Bool.false_eq_true, if_false, silent]
    exact idles_selfChanged blank flagged link

theorem steps_tick (s : State) : Steps s s.tick := by
  have fades : (s.lnk.flagEnded (s.clock + 1)).txVoid = s.lnk.txVoid ∧
      (s.lnk.flagEnded (s.clock + 1)).rxFault = s.lnk.rxFault ∧
      (s.lnk.state = .off → (s.lnk.flagEnded (s.clock + 1)).state = .off) := by
    unfold Link.flagEnded
    split
    · exact ⟨rfl, rfl, id⟩
    · split
      next ended => exact ⟨rfl, rfl, fun off => by simp [off] at ended⟩
      next => exact ⟨rfl, rfl, id⟩
  obtain ⟨tx, rx, off⟩ := fades
  have bounds : SameBounds s s.tick := ⟨⟨rfl, rfl, tx, rx, fun _ => rfl, rfl⟩, rfl, rfl, fun _ => rfl, rfl⟩
  exact ⟨bounds.keeps, fun blank => bounds.idles ((off blank.link).trans blank.link.symm)⟩

/-- The moves of the Configuration Reader and the restarts preserve the predicate, and so does every change that steps. -/
structure StepInvariant (P : State → Prop) : Prop where
  steps : ∀ {s t : State}, Steps s t → P s → P t
  restarted : ∀ s : State, P s.restartBlocks
  released : ∀ s : State, P s.releaseHold
  polled : ∀ {s : State}, s.cfg.phase = .readyPoll → P s → P (s.setCfg { s.cfg with phase := .transfer })
  failed : ∀ {s : State}, s.reading = true → ∀ reason offset, P s → P (s.failRead reason offset)
  accepted : ∀ {s : State}, s.reading = true → ∀ b, firstBadField b = none → P s →
    P (s.acceptBlock (imageOf b))

theorem steps_flush (s : State) : Steps s s.flush := (same_flush s).steps

namespace StepInvariant

variable {P : State → Prop}

theorem acts (inv : StepInvariant P) {c : Instr} {s : State}
    (taken : s.held = true → takenHeld c = true) (holds : P s) : P (effect c s) := by
  cases monitor : monitors c with
  | true =>
    cases effect_monitored monitor taken with
    | moved u rest => exact rest ▸ inv.steps (same_setSup s u).steps holds
    | restarted u rest => exact rest ▸ inv.restarted _
    | released u rest => exact rest ▸ inv.released _
    | levelled x b rest _ shed =>
      have bounds : SameBounds s x := by
        rw [rest]
        exact (same_setSup s _).trans (same_setRaised _ _)
      have lnk : x.lnk = s.lnk := by rw [rest]; rfl
      exact shed ▸ inv.steps ⟨bounds.keeps.trans (keeps_setShed x b),
        fun blank => idles_setShed blank bounds (congrArg _ lnk) b⟩ holds
  | false =>
    cases reader : reads c with
    | true =>
      cases effect_readMove reader s with
      | same rest => rw [rest]; exact holds
      | polled phase rest => exact rest ▸ inv.polled phase holds
      | failed reading reason offset rest => exact rest ▸ inv.failed reading reason offset holds
      | accepted reading b good rest => exact rest ▸ inv.accepted reading b good holds
    | false =>
      exact inv.steps ⟨effect_keeps monitor reader s, effect_idles monitor reader⟩ holds

/-- A predicate that restarts establish and every change preserves holds after every step. -/
theorem step (inv : StepInvariant P) {s s' : State} (holds : P s) (next : step s = .next s') :
    P s' := by
  have queued (s : State) (cs : List Instr) : Steps s (s.setPending cs) :=
    SameBounds.steps ⟨⟨rfl, rfl, rfl, rfl, fun _ => rfl, rfl⟩, rfl, rfl, fun _ => rfl, rfl⟩
  have drawn (s : State) : Steps s s.drawnTwice :=
    SameBounds.steps ⟨⟨rfl, rfl, rfl, rfl, fun _ => rfl, rfl⟩, rfl, rfl, fun _ => rfl, rfl⟩
  exact step_keeps (fun s cs => inv.steps (queued s cs)) (fun s => inv.steps (drawn s))
    (fun s h _ => inv.steps (steps_tick s) h)
    (fun c s taken h => inv.steps (steps_flush _) (inv.acts taken h)) holds next

end StepInvariant

/-! ### Restarts and the end of a read -/

theorem reading_congr {s t : State} (cfg : t.cfg = s.cfg) : t.reading = s.reading := by
  rw [State.reading, State.reading, cfg]

theorem reading_of_readyPoll {s : State} (poll : s.cfg.phase = .readyPoll) : s.reading = true := by
  simp [State.reading, poll]

theorem same_deferredWarn (s : State) : SameBounds s s.deferredWarn :=
  (same_raise s _ _ _ _ _).ite (.refl s)

/-- R179: after the blocks have taken the image nothing but the station, the link and the damper moves. -/
theorem acceptBlock_stb (s : State) (img : Image) :
    (s.acceptBlock img).stb = (s.takeImage img).stb := by
  have warned : (s.takeImage img).deferredWarn.stb = (s.takeImage img).stb := by
    unfold State.deferredWarn
    split <;> rfl
  exact warned

theorem acceptBlock_cfg (s : State) (img : Image) :
    (s.acceptBlock img).cfg = { s.cfg with image := some img, phase := .none, readTimer := none } :=
  (outer_enterSettling _).cfg.trans (same_deferredWarn _).cfg

theorem acceptBlock_not_reading (s : State) (img : Image) : (s.acceptBlock img).reading = false := by
  rw [State.reading, acceptBlock_cfg]
  rfl

/-- R107, R179: the end of a good read from the station in CONFIG_READ. -/
theorem keeps_accepted {s : State} (blank : s.Blank) (img : Image) :
    Keeps (s.takeImage img) (s.acceptBlock img) := by
  have warned := same_deferredWarn (s.takeImage img)
  refine warned.keeps.trans (keeps_enterSettling ?_)
  rw [warned.station]
  show s.mbr.station.drives = false
  rw [blank.station]
  rfl

/-! ### The pinned list of a good block -/

/-- R177: every field of a block without a bad field passes its check. -/
theorem checked_of_good {b : List Byte} (good : firstBadField b = none) :
    ∀ c ∈ fieldChecks b, c.2 = true := by
  simpa [firstBadField] using good

/-- A list in which no entry stands elsewhere as well. -/
theorem nodup_of_not_mem_eraseIdx {l : List Nat}
    (once : ∀ (i : Nat) (here : i < l.length), l[i] ∉ l.eraseIdx i) : l.Nodup := by
  refine List.nodup_iff_injective_getElem.mpr fun i j same => ?_
  by_contra apart
  refine once i i.isLt (List.mem_eraseIdx_iff_getElem.mpr ⟨j, j.isLt, ?_, same.symm⟩)
  exact fun here => apart (Fin.ext here.symm)

theorem listedPinned_length (b : List Byte) :
    (listedPinned b).length = min (byteAt b 46).toNat 4 := by
  simp [listedPinned]

theorem listedPinned_getElem (b : List Byte) (i : Nat) (here : i < (listedPinned b).length) :
    (listedPinned b)[i] = (byteAt b (47 + i)).toNat := by
  have few : i < 4 := by
    rw [listedPinned_length] at here
    omega
  have place : ([47, 48, 49, 50] : List Nat)[i] = 47 + i := by
    interval_cases i <;> rfl
  simp only [listedPinned, List.getElem_map, List.getElem_take, place]

/-- R177: a listed address passes its tests. -/
theorem pinnedOk_of_good {b : List Byte} (good : firstBadField b = none) {i : Nat}
    (here : i < (listedPinned b).length) : pinnedOk b i = true := by
  have few : i < 4 := by
    rw [listedPinned_length] at here
    omega
  have checked := checked_of_good good (47 + i, pinnedOk b i)
  refine checked ?_
  interval_cases i <;> simp [fieldChecks]

/-- R177: the image of a block without a bad field has a sound pinned list. -/
theorem imageOf_pinnedOk {b : List Byte} (good : firstBadField b = none) : (imageOf b).PinnedOk := by
  have tests (i : Nat) (here : i < (listedPinned b).length) :
      (listedPinned b)[i] ≠ (byteAt b 1).toNat ∧ (listedPinned b)[i] ∉ (listedPinned b).eraseIdx i := by
    have passed := pinnedOk_of_good good here
    have listed : i < (byteAt b 46).toNat := by
      rw [listedPinned_length] at here
      omega
    rw [pinnedOk, if_pos listed, ← listedPinned_getElem b i here] at passed
    simp only [Bool.and_eq_true, decide_eq_true_eq] at passed
    obtain ⟨⟨-, own⟩, once⟩ := passed
    exact ⟨own, by simpa using once⟩
  refine ⟨?_, nodup_of_not_mem_eraseIdx fun i here => (tests i here).2, fun mem => ?_⟩
  · exact (listedPinned_length b).trans_le (Nat.min_le_right _ _)
  · obtain ⟨i, here, same⟩ := List.getElem_of_mem mem
    exact (tests i here).1 same

end Sys2Proof.Machine
end

section
/-! PROOF. The invariants of table, confinement counters, duties, overdraw flags and caps. -/

namespace Sys2Proof.Machine

/-- R21: the table a good block starts. -/
theorem takeImage_tableBounded (s : State) {b : List Byte} (good : firstBadField b = none) :
    (s.takeImage (imageOf b)).TableBounded :=
  started_bounded rfl (imageOf_pinnedOk good) rfl

theorem acceptBlock_tableBounded (s : State) {b : List Byte} (good : firstBadField b = none) :
    (s.acceptBlock (imageOf b)).TableBounded :=
  tableBounded_congr (s := s.takeImage (imageOf b)) (acceptBlock_cfg s _)
    (congrArg _ (acceptBlock_stb s _)) (takeImage_tableBounded s good)

/-- A table without entries is bounded where no image is valid. -/
theorem tableBounded_of_empty {s : State} (order : s.stb.order = []) (image : s.cfg.image = none) :
    s.TableBounded := by
  refine ⟨by rw [order]; decide, by rw [order]; exact List.nodup_nil, fun img here => ?_⟩
  rw [image] at here
  cases here

/-- Settles O6. -/
theorem tableStaysBounded : Obligations.TableStaysBounded := by
  intro s s' bounded next
  refine StepInvariant.step (P := State.TableBounded) ?_ bounded next
  exact {
    steps := fun kept => kept.table
    restarted := fun s => tableBounded_of_empty rfl rfl
    released := fun s => tableBounded_of_empty rfl rfl
    polled := fun _ bounded => bounded
    failed := fun _ _ _ ⟨length, nodup, _⟩ => ⟨length, nodup, nofun⟩
    accepted := fun _ _ good _ => acceptBlock_tableBounded _ good }

/-- R105: blank while the block is read, which every step leaves so. -/
theorem steps_readingBlank {s t : State} (step : Steps s t) (blank : s.ReadingBlank) :
    t.ReadingBlank := by
  rw [readingBlank_iff] at blank ⊢
  intro reading
  have was := blank (reading_congr step.cfg ▸ reading)
  have idles := step.idles was
  exact ⟨idles.station.trans was.station, idles.link.trans was.link, step.cfg ▸ was.image⟩

theorem readingBlank_of_not_reading {s : State} (idle : s.reading = false) : s.ReadingBlank :=
  fun reading => absurd (idle.symm.trans reading) (by decide)

theorem releaseHold_readingBlank (s : State) : s.releaseHold.ReadingBlank := fun _ => ⟨rfl, rfl, rfl⟩

theorem polled_readingBlank {s : State} (poll : s.cfg.phase = .readyPoll) (blank : s.ReadingBlank) :
    (s.setCfg { s.cfg with phase := .transfer }).ReadingBlank :=
  fun _ => blank (reading_of_readyPoll poll)

theorem blank_of_reading {s : State} (blank : s.ReadingBlank) (reading : s.reading = true) :
    s.Blank := (readingBlank_iff s).mp blank reading

theorem countsBounded_of_calm {s : State} (tx : s.lnk.txVoid = 0) (rx : s.lnk.rxFault = 0) :
    s.CountsBounded := ⟨tx.trans_lt (by decide), rx.trans_lt (by decide), fun _ => ⟨tx, rx⟩⟩

/-- Settles O7. -/
theorem staysConfined : Obligations.StaysConfined := by
  intro s s' confined next
  refine StepInvariant.step (P := State.Confined) ?_ confined next
  exact {
    steps := fun kept ⟨blank, counts⟩ => ⟨steps_readingBlank kept blank, kept.counts counts⟩
    restarted := fun s => ⟨readingBlank_of_not_reading rfl, countsBounded_of_calm rfl rfl⟩
    released := fun s => ⟨releaseHold_readingBlank s, countsBounded_of_calm rfl rfl⟩
    polled := fun poll ⟨blank, counts⟩ => ⟨polled_readingBlank poll blank, counts⟩
    failed := fun reading reason offset ⟨blank, tx, rx, silent⟩ => by
      have station := (blank_of_reading blank reading).station
      exact ⟨readingBlank_of_not_reading rfl, tx, rx, fun _ => silent (by rw [station]; rfl)⟩
    accepted := fun {s} reading b _ ⟨blank, counts⟩ => by
      have was := blank_of_reading blank reading
      refine ⟨readingBlank_of_not_reading (acceptBlock_not_reading _ _), ?_⟩
      exact (keeps_accepted was (imageOf b)).counts counts }

/-- R164: channels at 0 are bounded whatever the station state. -/
theorem channelsBounded_of_reset {s : State} (reset : ∀ ch, s.dcc.channel ch = .reset) :
    s.ChannelsBounded := fun ch => by
  rw [Channel.WithinCap, Channel.Quiet, reset ch]
  exact ⟨⟨Nat.le_refl _, Nat.le_refl _⟩, fun _ => ⟨rfl, rfl⟩⟩

/-- R149: in CONFIG_READ every channel is held off. -/
theorem quiet_of_configRead {s : State} (station : s.mbr.station = .configRead)
    (bounded : s.ChannelsBounded) (ch : DutyChannel) : (s.dcc.channel ch).Quiet := by
  refine (bounded ch).2 ?_
  cases ch <;> simp [State.follows, station, Station.followsCaps]

/-- R179: the periods start with the duties as they are. -/
theorem amounts_takeImage (s : State) (img : Image) (ch : DutyChannel) :
    ((s.takeImage img).dcc.channel ch).amounts = (s.dcc.channel ch).amounts := by
  cases ch <;> rfl

theorem takeImage_channels {s : State} (img : Image) (bounded : s.ChannelsBounded) :
    (s.takeImage img).ChannelsBounded := fun ch => by
  rw [withinCap_congr (amounts_takeImage s img ch), quiet_congr (amounts_takeImage s img ch),
    follows_congr (t := s.takeImage img) (s := s) rfl rfl]
  exact bounded ch

/-- Settles O8. -/
theorem dutiesStayBounded : Obligations.DutiesStayBounded := by
  intro s s' duties next
  refine StepInvariant.step (P := State.DutiesBounded) ?_ duties next
  exact {
    steps := fun kept ⟨blank, bounded⟩ => ⟨steps_readingBlank kept blank, kept.channels bounded⟩
    restarted := fun s => ⟨readingBlank_of_not_reading rfl,
      channelsBounded_of_reset fun ch => by cases ch <;> rfl⟩
    released := fun s => ⟨releaseHold_readingBlank s,
      channelsBounded_of_reset fun ch => by cases ch <;> rfl⟩
    polled := fun poll ⟨blank, bounded⟩ => ⟨polled_readingBlank poll blank, bounded⟩
    failed := fun reading reason offset ⟨blank, bounded⟩ => by
      have quiet := quiet_of_configRead (blank_of_reading blank reading).station bounded
      exact ⟨readingBlank_of_not_reading rfl, fun ch => ⟨(bounded ch).1, fun _ => quiet ch⟩⟩
    accepted := fun reading b _ ⟨blank, bounded⟩ => by
      refine ⟨readingBlank_of_not_reading (acceptBlock_not_reading _ _), ?_⟩
      exact (keeps_accepted (blank_of_reading blank reading) (imageOf b)).channels
        (takeImage_channels _ bounded) }

/-- R21: the pinned entries of the start content are ABSENT. -/
theorem pinnedStart_absent (addresses : List Nat) :
    (addresses.map pinnedStart).filter (·.present) = [] := by
  refine List.filter_eq_nil_iff.mpr fun e he => ?_
  obtain ⟨a, -, rfl⟩ := List.mem_map.mp he
  exact Bool.false_ne_true

/-- R21: the start content holds no draw. -/
theorem total_started (img : Image) (shed : Bool) (timer : Timer) (r : Resource) :
    (ShareTable.started img shed timer).total r = 0 := by
  simp only [ShareTable.total, ShareTable.counted, ShareTable.started, pinnedStart_absent,
    List.append_nil]
  cases r <;> rfl

/-- R21, R40: flags that are clear agree with the table a good block starts. -/
theorem takeImage_agrees {s : State} (clear : s.cjg.overdraw = .all false) (img : Image) :
    (s.takeImage img).OverdrawAgrees := fun r => by
  show s.cjg.overdraw.get r = decide (_ < (ShareTable.started img _ _).total r)
  rw [clear, total_started, decide_eq_false (Nat.not_lt_zero _)]
  cases r <;> rfl

theorem agrees_of_reset {s : State} (flags : s.cjg = .reset) (table : s.stb = .reset) :
    s.OverdrawAgrees := fun r => by
  have total : s.stb.total r = 0 := by rw [table]; rfl
  rw [flags, total, decide_eq_false (Nat.not_lt_zero _)]
  cases r <;> rfl

/-- The bound of the table with the overdraw flags, which a refresh needs together. -/
def State.OverdrawSound (s : State) : Prop := s.TableBounded ∧ s.OverdrawTrue

theorem overdrawSound_invariant : StepInvariant State.OverdrawSound where
  steps := fun kept ⟨bounded, blank, agrees, clear⟩ => by
    refine ⟨kept.table bounded, steps_readingBlank kept blank, kept.agrees bounded agrees,
      fun reading => ?_⟩
    have was := reading_congr kept.cfg ▸ reading
    exact (kept.idles (blank_of_reading blank was)).flags agrees (clear was)
  restarted := fun s => ⟨tableBounded_of_empty rfl rfl, readingBlank_of_not_reading rfl,
    agrees_of_reset rfl rfl, fun _ => rfl⟩
  released := fun s => ⟨tableBounded_of_empty rfl rfl, releaseHold_readingBlank s,
    agrees_of_reset rfl rfl, fun _ => rfl⟩
  polled := fun poll ⟨bounded, blank, agrees, clear⟩ =>
    ⟨bounded, polled_readingBlank poll blank, agrees, fun _ => clear (reading_of_readyPoll poll)⟩
  failed := fun reading _ _ ⟨⟨length, nodup, _⟩, _, agrees, clear⟩ =>
    ⟨⟨length, nodup, nofun⟩, readingBlank_of_not_reading rfl, agrees, fun _ => clear reading⟩
  accepted := fun {s} reading b good ⟨_, blank, _, clear⟩ => by
    have ended := acceptBlock_not_reading s (imageOf b)
    have kept := keeps_accepted (blank_of_reading blank reading) (imageOf b)
    refine ⟨acceptBlock_tableBounded s good, readingBlank_of_not_reading ended, ?_,
      fun still => absurd (ended.symm.trans still) (by decide)⟩
    exact kept.agrees (takeImage_tableBounded s good) (takeImage_agrees (clear reading) _)

/-- Settles O10. -/
theorem overdrawStaysTrue : Obligations.OverdrawStaysTrue :=
  fun _ _ bounded flags next => (overdrawSound_invariant.step ⟨bounded, flags⟩ next).2

/-- R141: what `CapsWithinDraw` says of a read under way. -/
def State.CapsZero (s : State) : Prop := ∀ ch, (s.dcc.channel ch).cap = 0

/-- `CapsWithinDraw` by the caps of the channels. -/
structure State.CapsSound (s : State) : Prop where
  blank : s.ReadingBlank
  zero : s.reading = true → s.CapsZero
  below : s.CapsBelowDraw

theorem capsWithinDraw_iff (s : State) : s.CapsWithinDraw ↔ s.CapsSound := by
  have zero : s.CapsZero ↔ s.dcc.blower.cap = 0 ∧ s.dcc.heat.cap = 0 ∧ s.dcc.cool.cap = 0 :=
    ⟨fun zero => ⟨zero .blower, zero .heatValve, zero .coolValve⟩,
      fun ⟨blower, heat, cool⟩ ch => by cases ch <;> assumption⟩
  exact ⟨fun ⟨blank, reading, below⟩ => ⟨blank, fun h => zero.mpr (reading h), below⟩,
    fun ⟨blank, reading, below⟩ => ⟨blank, fun h => zero.mp (reading h), below⟩⟩

/-- R141: caps of 0 are below every draw. -/
theorem capsBelowDraw_of_zero {s : State} (zero : s.CapsZero) : s.CapsBelowDraw := by
  intro img e _ _
  have blower : s.dcc.blower.cap = 0 := zero .blower
  have heat : s.dcc.heat.cap = 0 := zero .heatValve
  have cool : s.dcc.cool.cap = 0 := zero .coolValve
  rw [blower, heat, cool]
  exact ⟨Nat.zero_le _, Nat.zero_le _, Nat.zero_le _⟩

theorem capsBelowDraw_of_no_image {s : State} (image : s.cfg.image = none) : s.CapsBelowDraw := by
  intro img e here _
  rw [image] at here
  cases here

theorem capsSound_invariant : StepInvariant State.CapsSound where
  steps := fun kept ⟨blank, zero, below⟩ => by
    refine ⟨steps_readingBlank kept blank, fun reading ch => ?_, kept.caps below⟩
    have was := reading_congr kept.cfg ▸ reading
    exact ((kept.idles (blank_of_reading blank was)).cap ch).trans (zero was ch)
  restarted := fun s => ⟨readingBlank_of_not_reading rfl, fun _ ch => by cases ch <;> rfl,
    capsBelowDraw_of_no_image rfl⟩
  released := fun s => ⟨releaseHold_readingBlank s, fun _ ch => by cases ch <;> rfl,
    capsBelowDraw_of_no_image rfl⟩
  polled := fun poll ⟨blank, zero, below⟩ =>
    ⟨polled_readingBlank poll blank, fun _ => zero (reading_of_readyPoll poll), below⟩
  failed := fun reading _ _ ⟨_, zero, _⟩ =>
    ⟨readingBlank_of_not_reading rfl, fun _ => zero reading, capsBelowDraw_of_no_image rfl⟩
  accepted := fun {s} reading b _ ⟨blank, zero, _⟩ => by
    have ended := acceptBlock_not_reading s (imageOf b)
    have taken : (s.takeImage (imageOf b)).CapsZero := fun ch =>
      (cap_of_amounts (amounts_takeImage s _ ch)).trans (zero reading ch)
    refine ⟨readingBlank_of_not_reading ended,
      fun still => absurd (ended.symm.trans still) (by decide), ?_⟩
    have kept := keeps_accepted (blank_of_reading blank reading) (imageOf b)
    exact kept.caps (capsBelowDraw_of_zero taken)

/-- Settles O11. -/
theorem capsStayWithinDraw : Obligations.CapsStayWithinDraw := fun s s' caps next =>
  (capsWithinDraw_iff s').mpr (capsSound_invariant.step ((capsWithinDraw_iff s).mp caps) next)

end Sys2Proof.Machine
end

section
/-! PROOF. The contents and the invariants right after reset. -/

namespace Sys2Proof.Machine

/-- Settles O3: each block of the reset state as the files give it. -/
theorem resetContents : Obligations.ResetContents := by
  refine ⟨rfl, rfl, rfl, rfl, rfl, rfl, rfl, fun ch => ?_, rfl, rfl, rfl, rfl, rfl, rfl, rfl, rfl⟩
  cases ch <;> rfl

/-- Settles O4: the table is empty, the counters, caps and duties are 0, and the read under way finds every block at its start. -/
theorem invariantsAtReset : Obligations.InvariantsAtReset := by
  have blank : State.reset.ReadingBlank := fun _ => ⟨rfl, rfl, rfl⟩
  have caps : State.reset.CapsZero := fun ch => by cases ch <;> rfl
  refine ⟨⟨Nat.zero_le _, Nat.zero_le _, rfl⟩, tableBounded_of_empty rfl rfl,
    ⟨blank, countsBounded_of_calm rfl rfl⟩, ⟨blank, channelsBounded_of_reset fun ch => ?_⟩,
    fun held => absurd held (by decide), ⟨blank, agrees_of_reset rfl rfl, fun _ => rfl⟩, ?_⟩
  · cases ch <;> rfl
  · exact (capsWithinDraw_iff _).mpr ⟨blank, fun _ => caps, capsBelowDraw_of_zero caps⟩

end Sys2Proof.Machine
end

section
/-! SUPPORT. The moves of the Configuration Reader, one equation for each outcome (R175 to R179). -/

namespace Sys2Proof.Machine

theorem pollStatus_of_ready {s : State} (poll : s.cfg.phase = .readyPoll) {b : Byte}
    (clear : b.getLsbD 0 = false) :
    s.pollStatus b = s.setCfg { s.cfg with phase := .transfer } := if_pos ⟨poll, clear⟩

theorem pollStatus_of_busy (s : State) {b : Byte} (busy : b.getLsbD 0 = true) :
    s.pollStatus b = s := if_neg fun ready => absurd (busy.symm.trans ready.2) (by decide)

theorem readTimeout_of_running {s : State} (running : s.cfg.readTimer.isSome = true) :
    s.readTimeout = s.failRead .timeout 0 := by
  obtain ⟨t, timer⟩ := Option.isSome_iff_exists.mp running
  unfold State.readTimeout
  rw [timer]

theorem readEnd_of_transfer {s : State} (transfer : s.cfg.phase = .transfer) {b : List Byte}
    (length : b.length = 64) : s.readEnd b = s.checkBlock b := if_pos ⟨transfer, length⟩

theorem checkBlock_of_badCheck (s : State) {b : List Byte} (bad : blockCheckGood b = false) :
    s.checkBlock b = s.failRead .check 0 := by
  rw [State.checkBlock, bad]
  rfl

theorem checkBlock_of_badVersion (s : State) {b : List Byte} (good : blockCheckGood b = true)
    (version : (byteAt b 0).toNat ≠ 1) : s.checkBlock b = s.failRead .version 0 := by
  rw [State.checkBlock, good, Bool.not_true, if_neg Bool.false_ne_true, if_pos version]

theorem checkBlock_of_badField (s : State) {b : List Byte} (good : blockCheckGood b = true)
    (version : (byteAt b 0).toNat = 1) {offset : Nat} (bad : firstBadField b = some offset) :
    s.checkBlock b = s.failRead .range offset := by
  rw [State.checkBlock, good, Bool.not_true, if_neg Bool.false_ne_true,
    if_neg (not_not.mpr version), bad]

theorem checkBlock_of_good (s : State) {b : List Byte} (good : blockCheckGood b = true)
    (version : (byteAt b 0).toNat = 1) (fields : firstBadField b = none) :
    s.checkBlock b = s.acceptBlock (imageOf b) := by
  rw [State.checkBlock, good, Bool.not_true, if_neg Bool.false_ne_true,
    if_neg (not_not.mpr version), fields]

/-- R174: the deferred event alone. -/
theorem deferredWarn_eq (s : State) : s.deferredWarn = s.setRaised s.deferredWarn.raised := by
  unfold State.deferredWarn
  split <;> rfl

/-- R107, R174, R179: the station, the link and the damper after the blocks have taken the image. -/
theorem acceptBlock_eq (s : State) (img : Image) :
    s.acceptBlock img = ((((s.takeImage img).setRaised (s.takeImage img).deferredWarn.raised).setLnk
      s.lnk.follow).setMbr { s.mbr with
        station := .settling
        settleTimer := if s.lnk.follow.state = .idle then s.after Config.settleTime else none
        censusTimer := none, selfSilence := .stopped, wakeTimer := none, sampleTimer := none
        parkDepth := none }).homeDamper := by
  unfold State.acceptBlock
  rw [deferredWarn_eq]
  rfl

/-- R174: SUPPLY_WARN is raised at the end of a read in WARN. -/
theorem acceptBlock_raised {s : State} (quiet : s.raised = []) (img : Image) :
    (s.acceptBlock img).raised = if s.sup.level = .warn then
      [{ origin := supOrigin, record := s.event .supplyWarn none none s.sup.sample }] else [] := by
  have warned : (s.acceptBlock img).raised = (s.takeImage img).deferredWarn.raised := by
    rw [acceptBlock_eq]
    rfl
  have shed : (s.takeImage img).sup.shed = decide (s.sup.level = .warn) := rfl
  have quiet' : (s.takeImage img).raised = [] := quiet
  rw [warned, State.deferredWarn, shed]
  by_cases warn : s.sup.level = .warn
  · rw [if_pos (decide_eq_true warn), if_pos warn, State.raise, State.setRaised_raised, quiet']
    rfl
  · rw [if_neg (by simpa using warn), if_neg warn]
    exact quiet

/-- R17: the self entry alone is counted in the start content. -/
theorem weightSum_started (img : Image) (shed : Bool) (timer : Timer) :
    (ShareTable.started img shed timer).weightSum = img.weight := by
  rw [ShareTable.weightSum, ShareTable.counted, ShareTable.started]
  dsimp only
  rw [pinnedStart_absent]
  rfl

end Sys2Proof.Machine
end

section
/-! PROOF. The end of a read, in a fault or with its block handed on. -/

namespace Sys2Proof.Machine

/-- Settles O15: the pins of each phase of the read, and each way it ends in a fault. -/
theorem readEndsInFault : Obligations.ReadEndsInFault := by
  refine ⟨fun s => ⟨fun poll => ?_, fun transfer => ?_, fun idle => ?_⟩, fun s ready => ⟨?_, ?_, ?_⟩,
    fun s b ready transfer length reason offset bad => ?_⟩
  · rw [State.memoryBits, poll]; decide
  · rw [State.memoryBits, State.pins, transfer]; exact ⟨rfl, by decide⟩
  · rw [State.memoryBits, State.pins, idle]; exact ⟨rfl, rfl, rfl, rfl⟩
  · intro b poll clear
    have acts : effect (.readyPollStatus b) s = _ := pollStatus_of_ready poll clear
    rw [exec_of_ready ready (by rw [acts]; exact ready.2), acts]
  · intro b busy
    have acts : effect (.readyPollStatus b) s = s := pollStatus_of_busy s busy
    rw [exec_of_ready ready (by rw [acts]; exact ready.2), acts]
  · intro running
    have acts : effect .configReadTimeout s = _ := readTimeout_of_running running
    rw [exec_of_ready ready (by rw [acts]; exact ready.2), acts]
    rfl
  · have acts : effect (.configReadEnd b) s = s.failRead reason offset := by
      refine (readEnd_of_transfer transfer length).trans ?_
      rcases bad with ⟨check, rfl, rfl⟩ | ⟨good, version, rfl, rfl⟩ | ⟨good, version, rfl, field⟩
      · exact checkBlock_of_badCheck s check
      · exact checkBlock_of_badVersion s good version
      · exact checkBlock_of_badField s good version field
    rw [exec_of_ready ready (by rw [acts]; exact ready.2), acts]
    rfl

/-- Settles O16. -/
theorem goodBlockIsHandedOn : Obligations.GoodBlockIsHandedOn := by
  intro s b ready transfer length good version fields
  have acts : effect (.configReadEnd b) s = s.acceptBlock (imageOf b) :=
    (readEnd_of_transfer transfer length).trans (checkBlock_of_good s good version fields)
  refine ⟨_, exec_of_running ready.1 _, ?_⟩
  rw [acts]
  have stb : (s.acceptBlock (imageOf b)).stb =
      .started (imageOf b) s.sup.shed (some (s.clock + Config.ageTick)) := acceptBlock_stb s _
  have raised := acceptBlock_raised ready.2 (imageOf b)
  have rest := acceptBlock_eq s (imageOf b)
  refine ⟨?_, ?_, fun r => ?_, ?_, fun r => ?_, ?_, ?_, fun off => ?_,
    fun ch => ?_, ?_, ?_, ?_, ?_, ?_, ?_, ?_, ?_⟩
  · rw [State.flush_cfg, acceptBlock_cfg]
  · rw [State.flush_stb, stb]; rfl
  · rw [State.flush_stb, stb, total_started]
  · rw [State.flush_stb, stb, weightSum_started]
  · rw [rest]
    cases r <;> rfl
  · rw [rest]; rfl
  · rw [rest]; rfl
  · rw [rest]
    exact if_pos off
  · rw [rest]
    cases ch <;> exact ⟨rfl, rfl⟩
  · rw [rest]; rfl
  · have svc : (s.acceptBlock (imageOf b)).svc = { s.svc with mask := (imageOf b).defaultMask } :=
      acceptBlock_svc s _
    split
    next warn =>
      rw [if_pos warn] at raised
      rw [State.flush_of_one raised, ← svc]
      rfl
    next calm =>
      rw [if_neg calm] at raised
      rw [State.flush_of_nil raised, svc]
  all_goals rw [rest]; rfl

end Sys2Proof.Machine
end

section
/-! SUPPORT. How the Transmit Queue moves in the notices of a change: by intents asked for alone (R92). A forced RELEASE, once queued, stands or is lowered. -/

namespace Sys2Proof.Machine

/-- The queue of `t` differs from that of `s` by intents asked for, one after another. -/
def Asks (s t : State) : Prop := ∃ is : List Intent, t.txq = is.foldl TransmitQueue.ask s.txq

theorem Asks.of_same {s t : State} (txq : t.txq = s.txq := by rfl) : Asks s t := ⟨[], txq⟩

theorem Asks.trans {s t u : State} (h : Asks s t) (k : Asks t u) : Asks s u := by
  obtain ⟨is, first⟩ := h
  obtain ⟨js, second⟩ := k
  exact ⟨is ++ js, by rw [List.foldl_append, second, first]⟩

theorem Asks.ite {s t u : State} {p : Prop} [Decidable p] (h : Asks s t) (k : Asks s u) :
    Asks s (if p then t else u) := by split <;> assumption

theorem asks_ask (s : State) (i : Intent) : Asks s (s.ask i) := ⟨[i], rfl⟩

theorem asks_forceRelease (s : State) (r : Resource) (t : Nat) : Asks s (s.forceRelease r t) := by
  unfold State.forceRelease
  split
  · exact .of_same
  · exact (asks_ask _ _).ite .of_same

theorem asks_evalInterlock (s : State) (img : Image) (e : Entry) :
    Asks s (s.evalInterlock img e) := by
  have stands : Asks s ((s.setZlp { s.zlp with interlock := true }).mapSelf Entry.withoutValves) :=
    .of_same
  exact (((stands.trans (asks_forceRelease _ _ _)).trans (asks_forceRelease _ _ _)).ite
    stands).ite .of_same

theorem asks_recomputeCaps (s : State) : Asks s s.recomputeCaps := by
  unfold State.recomputeCaps
  split
  · dsimp only
    split
    · exact (asks_evalInterlock s _ _).trans .of_same
    · exact asks_evalInterlock s _ _
  · exact .of_same

theorem asks_setTarget (s : State) (r : Resource) (t : Option Nat) : Asks s (s.setTarget r t) :=
  .of_same

theorem asks_offerTarget (s : State) (r : Resource) (t : Nat) : Asks s (s.offerTarget r t) :=
  (((asks_setTarget s r _).trans (asks_recomputeCaps _)).trans (asks_ask _ _)).ite .of_same

theorem asks_computeCut (s : State) (r : Resource) : Asks s (s.computeCut r) := by
  unfold State.computeCut
  split
  · exact .of_same
  · exact (asks_offerTarget s _ _).ite .of_same

theorem asks_evalOverdraw (s : State) (r : Resource) : Asks s (s.evalOverdraw r) := by
  have flagged (b : Bool) (o : Origin) (k : EventKind) (v : Option Nat) :
      Asks s ((s.setOverdraw r b).raise o k none (some r) v) := .of_same
  unfold State.evalOverdraw
  dsimp only
  split
  · exact Asks.ite .of_same (((flagged _ _ _ _).trans (asks_computeCut _ r)).ite (flagged _ _ _ _))
  · exact (flagged _ _ _ _).ite .of_same

theorem asks_tableChanged (s : State) : Asks s s.tableChanged :=
  ((asks_evalOverdraw s _).trans (asks_evalOverdraw _ _)).trans (asks_evalOverdraw _ _)

theorem asks_selfChanged (s : State) : Asks s s.selfChanged :=
  (asks_tableChanged s).trans (asks_recomputeCaps _)

/-- A RELEASE to at most `n` is queued for a resource whose intent is not on the wire. -/
def TransmitQueue.ReleasesTo (q : TransmitQueue) (r : Resource) (n : Nat) : Prop :=
  q.onWire ≠ some (.claim r) ∧ ∃ t, t ≤ n ∧ q.intents.claim.get r = some (.release t)

/-- R92: an intent asked for leaves a queued RELEASE or lowers it. -/
theorem releasesTo_ask {q : TransmitQueue} {r : Resource} {n : Nat} (releases : q.ReleasesTo r n)
    (i : Intent) : (q.ask i).ReleasesTo r n := by
  obtain ⟨free, t, le, queued⟩ := releases
  have held : q.intents.get (.claim r) = some (.claim r (.release t)) := by
    rw [Intents.get, queued]
    rfl
  unfold TransmitQueue.ask
  split
  · exact ⟨free, t, le, queued⟩
  · refine ⟨free, ?_⟩
    by_cases here : .claim r = i.key
    · cases i with
      | claim r' j =>
        obtain rfl : r = r' := by simpa [Intent.key] using here
        cases j with
        | release t' => exact ⟨min t t', (Nat.min_le_left _ _).trans le, by simp [Intents.combine, queued, combineClaim]⟩
        | request c => exact ⟨t, le, by simp [Intents.combine, queued, combineClaim]⟩
      | _ => cases here
    · have other := Intents.combine_get_other q.intents (i := i) (k := .claim r) here
      rw [held, Intents.get, Option.map_eq_some_iff] at other
      obtain ⟨j, queued', same⟩ := other
      exact ⟨t, le, by rw [queued', (Intent.claim.inj same).2]⟩

theorem releasesTo_asks {q : TransmitQueue} {r : Resource} {n : Nat} (is : List Intent)
    (releases : q.ReleasesTo r n) : (is.foldl TransmitQueue.ask q).ReleasesTo r n := by
  induction is generalizing q with
  | nil => exact releases
  | cons i is ih => exact ih (releasesTo_ask releases i)

theorem Asks.releasesTo {s t : State} (asks : Asks s t) {r : Resource} {n : Nat}
    (releases : s.txq.ReleasesTo r n) : t.txq.ReleasesTo r n := by
  obtain ⟨is, txq⟩ := asks
  exact txq ▸ releasesTo_asks is releases

/-- R97: a forced RELEASE below the own draw is queued, or a lower one stands. -/
theorem releasesTo_forceRelease {s : State} {r : Resource} {n : Nat}
    (below : ∃ e, s.stb.self = some e ∧ n < e.committed.get r) (free : s.txq.onWire ≠ some (.claim r)) :
    (s.forceRelease r n).txq.ReleasesTo r n := by
  obtain ⟨e, self, below⟩ := below
  unfold State.forceRelease
  rw [self]
  dsimp only
  rw [if_pos below, State.ask, TransmitQueue.ask_of_not_onWire free]
  refine ⟨free, ?_⟩
  show ∃ t, t ≤ n ∧ (s.txq.intents.claim.set r _).get r = _
  rw [Per.get_set]
  cases s.txq.intents.claim.get r with
  | none => exact ⟨n, Nat.le_refl _, rfl⟩
  | some i =>
    cases i with
    | release t => exact ⟨min t n, Nat.min_le_right _ _, rfl⟩
    | request c => exact ⟨n, Nat.le_refl _, rfl⟩

end Sys2Proof.Machine
end

section
/-! SUPPORT. A change of the shed flag (R140, R168): the flag, the lowered demand and the forced release first, then the notices. -/

namespace Sys2Proof.Machine

/-- The shed flag of the self entry set. -/
def State.markShed (s : State) (b : Bool) : State := s.mapSelf fun e => { e with shed := b }

/-- R168: the STATE that a station driving the line asks for. -/
def State.callState (s : State) : State := if s.mbr.station.drives then s.ask .state else s

/-- R168: a change of the shed flag up to its notices. -/
def State.shedFlagged (s : State) (b : Bool) : State :=
  (if b && (s.markShed b).isMember then (s.markShed b).shedNow else s.markShed b).callState

theorem setShed_of_self {s : State} {e : Entry} (self : s.stb.self = some e) (b : Bool) :
    s.setShed b = (s.shedFlagged b).selfChanged := by
  unfold State.setShed
  rw [self]
  rfl

theorem setShed_of_no_self {s : State} (self : s.stb.self = none) (b : Bool) : s.setShed b = s := by
  unfold State.setShed
  rw [self]

theorem same_callState (s : State) : SameBounds s s.callState := (same_ask s _).ite (.refl s)

@[simp] theorem callState_stb (s : State) : s.callState.stb = s.stb := by
  unfold State.callState
  split <;> rfl

@[simp] theorem callState_raised (s : State) : s.callState.raised = s.raised := by
  unfold State.callState
  split <;> rfl

theorem same_shedFlagged (s : State) (b : Bool) : SameBounds s (s.shedFlagged b) :=
  ((same_mapSelf s _).andThen (same_shedNow _)).trans (same_callState _)

theorem forceRelease_raised (s : State) (r : Resource) (t : Nat) :
    (s.forceRelease r t).raised = s.raised := (forceRelease_caps s r t).raised

theorem forceRelease_stb (s : State) (r : Resource) (t : Nat) :
    (s.forceRelease r t).stb = s.stb := by
  unfold State.forceRelease
  split
  · rfl
  · split <;> rfl

/-- The self entry, if there is one, has the shed flag `b`. -/
def State.ShedIs (s : State) (b : Bool) : Prop := ∀ e, s.stb.self = some e → e.shed = b

theorem shedIs_mapSelf {s : State} {b : Bool} {f : Entry → Entry}
    (shed : ∀ e, s.stb.self = some e → (f e).shed = b) : (s.mapSelf f).ShedIs b := by
  intro e self
  obtain ⟨x, here, rfl⟩ := Option.map_eq_some_iff.mp self
  exact shed x here

theorem shedIs_markShed (s : State) (b : Bool) : (s.markShed b).ShedIs b :=
  shedIs_mapSelf fun _ _ => rfl

/-- R140: the lowered demand leaves the flag, and no event is raised. -/
theorem shedNow_facts {s : State} {b : Bool} (shed : s.ShedIs b) :
    s.shedNow.ShedIs b ∧ s.shedNow.raised = s.raised := by
  unfold State.shedNow
  split
  next img e _ _ =>
    refine ⟨fun e' => ?_, forceRelease_raised _ _ _⟩
    rw [forceRelease_stb]
    refine shedIs_mapSelf ?_ e'
    exact fun x here => shed x here
  next => exact ⟨shed, rfl⟩

/-- R168: the flag stands in the self entry, and no event is raised before the notices. -/
theorem shedFlagged_facts (s : State) (b : Bool) :
    (s.shedFlagged b).ShedIs b ∧ (s.shedFlagged b).raised = s.raised := by
  unfold State.shedFlagged State.ShedIs
  rw [callState_stb, callState_raised]
  split
  · exact shedNow_facts (shedIs_markShed s b)
  · exact ⟨shedIs_markShed s b, rfl⟩

/-- R168: the flag after the change. -/
theorem setShed_shedIs (s : State) (b : Bool) : (s.setShed b).ShedIs b := by
  cases self : s.stb.self with
  | none =>
    rw [setShed_of_no_self self]
    intro e here
    rw [self] at here
    cases here
  | some e =>
    rw [setShed_of_self self]
    have shed := (shedFlagged_facts s b).1
    intro e' here
    rcases (selfChanged_table (s.shedFlagged b)).self with stands | zeroed
    · exact shed e' (stands ▸ here)
    · rw [zeroed] at here
      obtain ⟨x, some, rfl⟩ := Option.map_eq_some_iff.mp here
      exact shed x some

/-- The notices of a change leave the own draw. -/
theorem SelfStands.drawn {s t : State} (stands : s.SelfStands t) :
    t.stb.self.map (·.committed) = s.stb.self.map (·.committed) := by
  rcases stands with same | zeroed
  · rw [same]
  · rw [zeroed, Option.map_map]
    rfl

theorem setShed_drawn (s : State) (b : Bool) :
    (s.setShed b).stb.self.map (·.committed) = s.stb.self.map (·.committed) := by
  cases self : s.stb.self with
  | none => rw [setShed_of_no_self self, self]
  | some e =>
    rw [setShed_of_self self, ← self]
    exact (SelfStands.drawn (selfChanged_table _).self).trans (same_shedFlagged s b).drawn

/-- R40: while the flags agree a change of the shed flag raises no event. -/
theorem setShed_raised {s : State} (agrees : s.OverdrawAgrees) (b : Bool) :
    (s.setShed b).raised = s.raised := by
  cases self : s.stb.self with
  | none => rw [setShed_of_no_self self]
  | some e =>
    rw [setShed_of_self self, State.selfChanged,
      tableChanged_same ((same_shedFlagged s b).agrees agrees), (recomputeCaps_caps _).raised,
      (shedFlagged_facts s b).2]

/-- R140, R168: the forced release to the POWER floor in MEMBER. -/
theorem setShed_releases {s : State} {img : Image} {e : Entry} (image : s.cfg.image = some img)
    (self : s.stb.self = some e) (member : s.isMember = true)
    (above : e.floorOr0 .power < e.committed.power) (free : s.txq.onWire ≠ some (.claim .power)) :
    (s.setShed true).txq.ReleasesTo .power (e.floorOr0 .power) := by
  rw [setShed_of_self self]
  refine (asks_selfChanged _).releasesTo ?_
  have asks : Asks (s.markShed true).shedNow (s.shedFlagged true) := by
    have member' : (s.markShed true).isMember = true := member
    rw [State.shedFlagged, member', Bool.and_true, if_pos rfl]
    exact (asks_ask _ _).ite .of_same
  refine asks.releasesTo ?_
  have self' : (s.markShed true).stb.self = some { e with shed := true } := by
    rw [State.markShed, State.mapSelf, State.setStb_stb, self]
    rfl
  have image' : (s.markShed true).cfg.image = some img := image
  have free' : (s.markShed true).txq.onWire ≠ some (.claim .power) := free
  unfold State.shedNow
  rw [image', self']
  dsimp only
  exact releasesTo_forceRelease ⟨_, congrArg (Option.map _) self', above⟩ free'

end Sys2Proof.Machine
end

section
/-! PROOF. The supply level in the running part. -/

namespace Sys2Proof.Machine

/-- R174, R189: the level set, and its event where an image is valid. -/
def State.signalled (s : State) (u : Supply) (k : EventKind) (v : Option Nat) : State :=
  if s.cfg.image.isSome then (s.setSup u).raise supOrigin k none none v else s.setSup u

@[simp] theorem signalled_sup (s : State) (u : Supply) (k : EventKind) (v : Option Nat) :
    (s.signalled u k v).sup = u := by
  unfold State.signalled
  split <;> rfl

theorem signalled_rest (s : State) (u : Supply) (k : EventKind) (v : Option Nat) :
    s.signalled u k v = (s.setSup u).setRaised (s.signalled u k v).raised := by
  unfold State.signalled
  split <;> rfl

theorem signalled_raised {s : State} (quiet : s.raised = []) (u : Supply) (k : EventKind)
    (v : Option Nat) :
    (s.signalled u k v).raised = if s.cfg.image.isSome then
      [{ origin := supOrigin, record := s.event k none none v }] else [] := by
  unfold State.signalled
  split
  · show s.raised ++ _ = _
    rw [quiet]
    rfl
  · exact quiet

/-- R167, R168, R174, R189: what WARN's begin and end have in common. -/
theorem signalled_setShed {s : State} (quiet : s.raised = []) (u : Supply) (k : EventKind)
    (v : Option Nat) (b : Bool) :
    ((s.signalled u k v).setShed b).flush.sup = u ∧
      s.ShedFrame ((s.signalled u k v).setShed b).flush ∧
      (∀ e, ((s.signalled u k v).setShed b).flush.stb.self = some e → e.shed = b) ∧
      (s.OverdrawAgrees → ((s.signalled u k v).setShed b).flush.svc =
        if s.cfg.image.isSome then s.svc.post (s.event k none none v) else s.svc) := by
  have sup := signalled_sup s u k v
  have rest := signalled_rest s u k v
  have raised := signalled_raised quiet u k v
  generalize s.signalled u k v = x at sup rest raised
  have notice := setShed_notice x b
  have svc : (x.setShed b).svc = s.svc := by rw [notice.svc, rest]; rfl
  refine ⟨?_, ⟨?_, ?_, ?_, ?_, ?_, ?_, ?_, ?_, ?_, ?_, ?_⟩, ?_, fun agrees => ?_⟩
  · rw [State.flush_sup, notice.sup, sup]
  · rw [State.flush_stb, notice.stb, rest]; rfl
  · rw [State.flush_csr, notice.csr, rest]; rfl
  · rw [State.flush_lnk, notice.lnk, rest]; rfl
  · rw [State.flush_mbr, notice.mbr, rest]; rfl
  · rw [State.flush_cfg, notice.cfg, rest]; rfl
  · rw [State.flush_clock, notice.clock, rest]; rfl
  · rw [State.flush_pending, notice.pending, rest]; rfl
  · rw [State.PortStands, ← svc]
    exact flush_port _
  · rw [State.flush_dcc, notice.damper, rest]; rfl
  · rw [State.flush_dcc, notice.condition, rest]; rfl
  · rw [State.flush_stb, setShed_drawn, rest]; rfl
  · rw [State.flush_stb]
    exact setShed_shedIs x b
  · have agreesX : x.OverdrawAgrees := by rw [rest]; exact agrees
    have kept := (setShed_raised agreesX b).trans raised
    split
    next valid =>
      rw [if_pos valid] at kept
      rw [State.flush_of_one kept, ← svc]
      rfl
    next absent =>
      rw [if_neg absent] at kept
      rw [State.flush_of_nil kept, svc]

theorem effect_supplySample {s : State} (ready : s.Ready) {v : Nat} (high : 170 ≤ v) :
    effect (.supplySample v) s =
      (s.setSup (s.sup.sampled (min 360 v))).levelSample (min 360 v) :=
  takeSupplySample_of_running ready.1 high

theorem exec_supplySample_quiet {s x : State} (ready : s.Ready) {v : Nat} (high : 170 ≤ v)
    (acts : (s.setSup (s.sup.sampled (min 360 v))).levelSample (min 360 v) = x)
    (quiet : x.raised = []) : exec (.supplySample v) s = .next x := by
  have taken := (effect_supplySample ready high).trans acts
  rw [exec_of_ready ready (by rw [taken, quiet]), taken]

/-- R167: from 21.0 V on NORMAL stays. -/
theorem levelSample_of_normal {s : State} (normal : s.sup.level = .normal) {n : Nat}
    (above : 210 ≤ n) : s.levelSample n = s := by
  rw [State.levelSample, normal]
  exact if_neg (Nat.not_lt.mpr above)

/-- R167, R168, R174: below 21.0 V NORMAL ends in WARN. -/
theorem levelSample_warns {s : State} (normal : s.sup.level = .normal) {n : Nat} (below : n < 210) :
    s.levelSample n =
      (s.signalled { s.sup with level := .warn } .supplyWarn (some n)).setShed true := by
  rw [State.levelSample, normal]
  exact if_pos below

/-- R167: in WARN a sample below 22.5 V stops the recovery timer, and another starts a stopped one. -/
theorem levelSample_of_warn {s : State} (warn : s.sup.level = .warn) (n : Nat) :
    s.levelSample n = s.setSup { s.sup with
      recovery := if n < 225 then none
        else if s.sup.recovery.isSome then s.sup.recovery
        else some (s.clock + Config.recoveryTime) } := by
  rw [State.levelSample, warn]
  show s.recoverySample n = _
  unfold State.recoverySample Config.warnRecovery
  split
  · rfl
  · split <;> rfl

/-- R167: an expiry of the recovery timer outside WARN stops it alone. -/
theorem recover_of_level {s : State} (runs : s.sup.recovery.isSome = true)
    (level : s.sup.level ≠ .warn) : s.recover = s.setSup { s.sup with recovery := none } := by
  obtain ⟨t, timer⟩ := Option.isSome_iff_exists.mp runs
  unfold State.recover
  rw [timer]
  exact if_neg level

/-- R167, R168, R174: in WARN it ends in NORMAL. -/
theorem recover_of_warn {s : State} (runs : s.sup.recovery.isSome = true)
    (warn : s.sup.level = .warn) :
    s.recover = (s.signalled { s.sup with recovery := none, level := .normal } .supplyOk
      s.sup.sample).setShed false := by
  obtain ⟨t, timer⟩ := Option.isSome_iff_exists.mp runs
  unfold State.recover
  rw [timer]
  exact if_pos warn

/-- R140, R168: WARN's forced release to the POWER floor. -/
theorem signalled_releases {s : State} {u : Supply} {k : EventKind} {v : Option Nat} {img : Image}
    {e : Entry} (image : s.cfg.image = some img) (self : s.stb.self = some e)
    (member : s.isMember = true) (above : e.floorOr0 .power < e.committed.power)
    (free : s.txq.onWire ≠ some (.claim .power)) :
    ((s.signalled u k v).setShed true).txq.ReleasesTo .power (e.floorOr0 .power) := by
  have rest := signalled_rest s u k v
  generalize s.signalled u k v = x at rest
  refine setShed_releases (img := img) ?_ ?_ ?_ above ?_ <;> rw [rest] <;> assumption

theorem samplesMoveLevel {s : State} {v : Nat} (ready : s.Ready) (high : 170 ≤ v)
    (normal : s.sup.level = .normal) (below : v < 210) :
    exec (.supplySample v) s = .next ((s.signalled
      { s.sup with sample := some v, awaiting := false, level := .warn } .supplyWarn
      (some v)).setShed true).flush := by
  have clamped : min 360 v = v := by omega
  rw [exec_of_running ready.1, effect_supplySample ready high, clamped,
    levelSample_warns (s := s.setSup (s.sup.sampled v)) normal below]
  rfl

/-- Settles O14: the level and the recovery timer by the sample, and both changes of SHED. -/
theorem samplesAndRecoveryMoveLevel : Obligations.SamplesAndRecoveryMoveLevel := by
  refine ⟨fun s v ready high => ⟨?_, ?_, ?_, ?_⟩, fun s ready running => ⟨?_, ?_⟩⟩
  · intro normal above
    exact exec_supplySample_quiet ready high (levelSample_of_normal (s := s.setSup (s.sup.sampled _)) normal (by omega)) ready.2
  · intro warn below
    have clamped : min 360 v = v := by omega
    refine exec_supplySample_quiet ready high ((levelSample_of_warn (s := s.setSup (s.sup.sampled _)) warn _).trans ?_) ready.2
    rw [clamped, if_pos below]
    rfl
  · intro warn above
    refine exec_supplySample_quiet ready high ((levelSample_of_warn (s := s.setSup (s.sup.sampled _)) warn _).trans ?_) ready.2
    rw [if_neg (by omega)]
    rfl
  · intro normal below
    obtain ⟨sup, frame, shed, svc⟩ := signalled_setShed ready.2
      { s.sup with sample := some v, awaiting := false, level := .warn } .supplyWarn (some v) true
    refine ⟨_, samplesMoveLevel ready high normal below, sup, frame, shed, svc, ?_⟩
    intro img e image self member above free
    rw [State.flush_txq]
    exact (signalled_releases image self member above free).2
  · intro level
    have taken : effect .recoveryTimerExpiry s = _ := recover_of_level running level
    rw [exec_of_ready ready (by rw [taken]; exact ready.2), taken]
  · intro warn
    have taken : effect .recoveryTimerExpiry s = _ := recover_of_warn running warn
    refine ⟨_, exec_of_running ready.1 _, ?_⟩
    rw [taken]
    exact signalled_setShed ready.2 _ _ _ _

end Sys2Proof.Machine
end

section
/-! SUPPORT. Commands whose resulting state is known and silent; the statistics counters. -/

namespace Sys2Proof.Machine

/-- A command between commands of the running part, by the silent state its effect gives. -/
theorem exec_becomes {s t : State} (ready : s.Ready) {c : Instr} (acts : effect c s = t)
    (quiet : t.raised = []) : exec c s = .next t := by
  rw [exec_of_ready ready (by rw [acts, quiet]), acts]

/-- R80: the states that drive the line. -/
theorem drives_iff (x : Station) : x.drives = true ↔ x = .joining ∨ x = .member := by
  cases x <;> simp [Station.drives]

theorem drives_counts {x : Station} (drives : x.drives = true) : x.counts = true := by
  obtain rfl | rfl := (drives_iff x).mp drives <;> rfl

/-- R89: a counter in the states that count. -/
theorem bump_of_counts {s : State} (counts : s.mbr.station.counts = true) (i : CounterId) :
    s.bump i = s.setLnk { s.lnk with counters := s.lnk.counters.bump i } := if_pos counts

theorem bump_eq (s : State) (i : CounterId) :
    s.bump i = s.setLnk { s.lnk with
      counters := if s.mbr.station.counts then s.lnk.counters.bump i else s.lnk.counters } := by
  unfold State.bump
  split <;> rfl

end Sys2Proof.Machine
end

section
/-! PROOF. The link follows the line; what the queue offers and forms; the transmission start. -/

namespace Sys2Proof.Machine

/-- R66, R107: the eleventh recessive bit. -/
theorem lineIdle_eq {s : State} (waits : s.lnk.state = .seekingIdle ∨ s.lnk.state = .flag) :
    s.lineIdle = (s.setLnk { s.lnk with state := .idle, recessive := 11, flagTimer := none }).setMbr
      { s.mbr with settleTimer := if s.mbr.station = .settling
                                  then some (s.clock + Config.settleTime)
                                  else s.mbr.settleTimer } := by
  rw [State.lineIdle, if_pos waits]
  show (if s.mbr.station = .settling then _ else _) = _
  split <;> rfl

/-- Settles O18. -/
theorem linkFollowsTheLine : Obligations.LinkFollowsTheLine := by
  refine fun s ready => ⟨fun waits => ?_, fun idle => ?_, fun seeking => ?_, fun k onLine => ?_⟩
  · exact exec_becomes ready (lineIdle_eq waits) ready.2
  · exact exec_becomes ready (if_pos idle) ready.2
  · exact exec_becomes ready (if_pos seeking) ready.2
  · exact exec_becomes ready (if_pos onLine) ready.2

theorem lowestIntent_eq_none (address : Nat) (is : List Intent) :
    lowestIntent address is = none ↔ is = [] := by
  cases is with
  | nil => exact ⟨fun _ => rfl, fun _ => rfl⟩
  | cons i is =>
    refine ⟨fun none => ?_, nofun⟩
    rw [lowestIntent] at none
    split at none
    · cases none
    · split at none <;> cases none

/-- R91: the lowest intent is the first of those with the least arbitration value. -/
theorem lowestIntent_eq_some {address : Nat} {is : List Intent} {i : Intent}
    (lowest : lowestIntent address is = some i) :
    ∃ before after, is = before ++ i :: after ∧
      (∀ j ∈ before, i.value address < j.value address) ∧
      ∀ j ∈ after, i.value address ≤ j.value address := by
  induction is generalizing i with
  | nil => cases lowest
  | cons x xs ih =>
    rw [lowestIntent] at lowest
    cases rest : lowestIntent address xs with
    | none =>
      rw [rest] at lowest
      cases lowest
      rw [(lowestIntent_eq_none address xs).mp rest]
      exact ⟨[], [], rfl, nofun, nofun⟩
    | some y =>
      obtain ⟨before, after, split, above, least⟩ := ih rest
      have bound : ∀ j ∈ xs, y.value address ≤ j.value address := by
        intro j here
        rw [split, List.mem_append, List.mem_cons] at here
        rcases here with here | rfl | here
        · exact (above j here).le
        · exact Nat.le_refl _
        · exact least j here
      rw [rest] at lowest
      dsimp only at lowest
      by_cases less : y.value address < x.value address
      · rw [if_pos less] at lowest
        cases lowest
        refine ⟨x :: before, after, by rw [split]; rfl, ?_, least⟩
        rintro j (_ | ⟨_, here⟩)
        · exact less
        · exact above j here
      · rw [if_neg less] at lowest
        cases lowest
        exact ⟨[], xs, rfl, nofun, fun j here => (Nat.le_of_not_lt less).trans (bound j here)⟩

/-- Settles O19. -/
theorem lowestIntentIsOffered : Obligations.LowestIntentIsOffered := fun q address =>
  ⟨lowestIntent_eq_none address q.held, fun _ offered => ⟨rfl, lowestIntent_eq_some offered⟩⟩

theorem isMember_iff (s : State) : s.isMember = true ↔ s.mbr.station = .member := decide_eq_true_iff

theorem lapseDue_iff (c : CapacityRecord) :
    c.lapseDue = true ↔ c.state = .fresh ∧ c.timer = .expired := by
  rw [CapacityRecord.lapseDue, Bool.and_eq_true, decide_eq_true_iff, decide_eq_true_iff]

/-- R53, R110: some record is FRESH with its supply timer expired. -/
theorem anyExpired_iff (c : Records) :
    c.anyExpired = true ↔
      ∃ r ∈ resources, (c.capacity.get r).state = .fresh ∧ (c.capacity.get r).timer = .expired := by
  rw [Records.anyExpired, List.any_eq_true]
  exact exists_congr fun r => and_congr_right fun _ => lapseDue_iff _

/-- R54: the values of a lapse frame. -/
theorem lapseValues_eq (s : State) (img : Image) :
    s.lapseValues img = Per.of fun r =>
      if (s.csr.capacity.get r).state = .fresh ∧ (s.csr.capacity.get r).timer = .expired
      then some (img.fallback.get r) else none := by
  unfold State.lapseValues
  congr 1
  funext r
  exact if_congr (lapseDue_iff _) rfl rfl

/-- Settles O20: each intent's row of R95. -/
theorem framesFormed : Obligations.FramesFormed := by
  intro s e self
  refine ⟨fun r c => ?_, fun r target => ?_, fun p => ?_, ?_, ?_, fun p rec record => ?_,
    fun rec record => ?_, fun img image => ?_⟩ <;> rw [State.form, self]
  · refine if_congr ?_ ?_ rfl
    · rw [Bool.and_eq_true, Bool.and_eq_true, isMember_iff, decide_eq_true_iff, decide_eq_true_iff,
        and_assoc]
    · cases s.txq.step.get r <;> rfl
  · refine if_congr ?_ rfl rfl
    rw [Bool.and_eq_true, drives_iff, decide_eq_true_iff]
    rfl
  · exact if_congr (isMember_iff s) rfl rfl
  · exact if_congr (drives_iff _) rfl rfl
  · dsimp only
    rw [State.formSetpoint, record]
    exact if_congr (drives_iff _) rfl rfl
  · dsimp only
    rw [State.formState, record]
    exact if_congr (drives_iff _) rfl rfl
  · dsimp only
    rw [State.formLapse, image]
    dsimp only
    rw [lapseValues_eq]
    refine if_congr ?_ rfl rfl
    rw [Bool.and_eq_true, isMember_iff, anyExpired_iff]

theorem offer_of_empty {s : State} (empty : s.txq.intents.offered s.ownAddress = none) (n : Nat) :
    State.offer (n + 1) s = s := by
  rw [State.offer, empty]

theorem offer_of_formed {s : State} {i : Intent} {f : FrameBody}
    (offered : s.txq.intents.offered s.ownAddress = some i) (formed : s.form i = some f) (n : Nat) :
    State.offer (n + 1) s = s.startFrame i f := by
  rw [State.offer, offered]
  dsimp only
  rw [formed]

theorem offer_of_dropped {s : State} {i : Intent}
    (offered : s.txq.intents.offered s.ownAddress = some i) (dropped : s.form i = none) (n : Nat) :
    State.offer (n + 1) s = State.offer n (s.dropIntent i) := by
  rw [State.offer, offered]
  dsimp only
  rw [dropped]

/-- R28, R73: the start of a frame, as the statements name it. -/
theorem startFrame_started (s : State) (i : Intent) (f : FrameBody) :
    s.Started (s.startFrame i f) i f := by
  cases f <;> rfl

theorem startFrame_raised (s : State) (i : Intent) (f : FrameBody) :
    (s.startFrame i f).raised = s.raised := by
  cases f <;> rfl

/-- R45, R95: a RELEASE is dropped where the own draw has come to the lower of its target and the held one. -/
theorem formRelease_eq_none {s : State} {e : Entry} (drives : s.mbr.station.drives = true)
    {r : Resource} {t : Nat} (dropped : s.formRelease e r t = none) :
    e.committed.get r ≤ belowTarget (s.cjg.releaseTarget.get r) t := by
  by_contra above
  have forms : (s.mbr.station.drives && decide (belowTarget (s.cjg.releaseTarget.get r) t <
      e.committed.get r)) = true := by
    rw [drives, Bool.true_and]
    exact decide_eq_true (Nat.lt_of_not_le above)
  cases (if_pos forms).symm.trans dropped

/-- R44, R45, R94: an intent dropped at its start, as the statements name it. -/
theorem dropIntent_eq {s u : State} {e : Entry} {i : Intent} (drives : s.mbr.station.drives = true)
    (self : s.stb.self = some e) (dropped : s.form i = none) (without : s.WithoutIntent u i) :
    s.dropIntent i = u := by
  rw [show u = _ from without]
  cases i with
  | claim r j =>
    cases j with
    | request c => rfl
    | release t =>
      rw [State.form, self] at dropped
      have met := formRelease_eq_none drives dropped
      show State.dropStaleTarget _ (.claim r (.release t)) = _
      unfold State.dropStaleTarget
      dsimp only [State.setTxq_stb, State.setTxq_cjg]
      rw [self]
      cases target : s.cjg.releaseTarget.get r with
      | none => rfl
      | some h =>
        rw [target] at met
        have reached : e.committed.get r ≤ h := met.trans (Nat.min_le_right t h)
        dsimp only
        rw [if_pos reached, if_neg (Option.some_ne_none h)]
        rfl
  | _ => rfl

theorem withoutIntent_raised {s u : State} {i : Intent} (without : s.WithoutIntent u i) :
    u.raised = s.raised := by
  rw [show u = _ from without]
  dsimp only
  split
  · split
    · rfl
    · exact (recomputeCaps_caps _).raised
  · rfl

/-- Settles O21: the queue is offered once, or once more after a drop. -/
theorem transmissionStarts : Obligations.TransmissionStarts := by
  intro s ready idle drives
  have offers {t : State} (offer : State.offer 12 s = t) : effect .transmissionStart s = t :=
    (if_pos ⟨idle, drives⟩).trans offer
  refine ⟨fun empty => ?_, fun i f offered formed => ?_, fun i e u offered dropped self without => ?_⟩
  · exact exec_becomes ready (offers (offer_of_empty empty 11)) ready.2
  · refine ⟨_, exec_becomes ready (offers (offer_of_formed offered formed 11)) ?_,
      startFrame_started s i f⟩
    rw [startFrame_raised]
    exact ready.2
  · have quiet : u.raised = [] := (withoutIntent_raised without).trans ready.2
    have again : State.offer 12 s = State.offer 11 u := by
      rw [offer_of_dropped offered dropped, dropIntent_eq drives self dropped without]
    refine ⟨fun empty => ?_, fun j f offered' formed => ?_⟩
    · exact exec_becomes ready (offers (again.trans (offer_of_empty empty 10))) quiet
    · refine ⟨_, exec_becomes ready (offers (again.trans (offer_of_formed offered' formed 10))) ?_,
        startFrame_started u j f⟩
      rw [startFrame_raised]
      exact quiet

end Sys2Proof.Machine
end

section
/-! PROOF. Failures at a frame short of the sixteenth, and arrivals that no block takes. -/

namespace Sys2Proof.Machine

/-- R75, R76: the frame broken off by a station that drives. -/
theorem breakFrame_of_drives {s : State} (drives : s.mbr.station.drives = true) :
    s.breakFrame = s.setLnk (s.lnk.breakOff (some (s.clock + Config.flagTime))) := by
  rw [State.breakFrame, if_pos drives]
  rfl

/-- R84: short of the limit a void own frame counts. -/
theorem countTxVoid_of_short {s : State} (drives : s.mbr.station.drives = true)
    (short : s.lnk.txVoid + 1 < 16) :
    s.countTxVoid = s.setLnk { s.lnk with txVoid := s.lnk.txVoid + 1 } := by
  rw [State.countTxVoid, if_pos drives, if_neg (show ¬ Config.confinementLimit ≤ _ from Nat.not_le.mpr short)]

/-- R84, R86: at the limit it takes the station to LINK_QUIET. -/
theorem countTxVoid_of_limit {s : State} (drives : s.mbr.station.drives = true)
    (limit : s.lnk.txVoid = 15) : s.countTxVoid = s.enterLinkQuiet 1 := by
  rw [State.countTxVoid, if_pos drives,
    if_pos (show Config.confinementLimit ≤ _ by rw [limit]; exact Nat.le_refl _)]

theorem countTxVoid_of_silent {s : State} (silent : s.mbr.station.drives = false) :
    s.countTxVoid = s := if_neg (Bool.eq_false_iff.mp silent)

/-- R85: short of the limit a frame FAULTed here counts. -/
theorem countRxFault_of_short {s : State} (drives : s.mbr.station.drives = true)
    (short : s.lnk.rxFault + 1 < 16) :
    s.countRxFault = s.setLnk { s.lnk with rxFault := s.lnk.rxFault + 1 } := by
  rw [State.countRxFault, if_pos drives, if_neg (show ¬ Config.confinementLimit ≤ _ from Nat.not_le.mpr short)]

/-- R85, R86: at the limit it takes the station to LINK_QUIET. -/
theorem countRxFault_of_limit {s : State} (drives : s.mbr.station.drives = true)
    (limit : s.lnk.rxFault = 15) : s.countRxFault = s.enterLinkQuiet 2 := by
  rw [State.countRxFault, if_pos drives,
    if_pos (show Config.confinementLimit ≤ _ by rw [limit]; exact Nat.le_refl _)]

/-- R75: a bit error up to the confinement counter. -/
theorem bitError_eq {s : State} (sends : s.lnk.state = .transmitting)
    (drives : s.mbr.station.drives = true) :
    s.bitError = ((s.setLnk { s.lnk.breakOff (some (s.clock + Config.flagTime)) with
      counters := s.lnk.counters.bump .voidsSeen }).setTxq s.txq.returned).countTxVoid := by
  have counts := drives_counts drives
  rw [State.bitError, if_pos sends, breakFrame_of_drives drives, bump_of_counts (by exact counts)]
  rfl

theorem sending_of_transmitting {s : State} (sends : s.lnk.state = .transmitting) :
    s.sending = s.lnk.wire := if_pos sends

/-- R82, R83: a void own frame up to the confinement counter. -/
theorem voidDone_eq {s : State} {f : FrameBody} (sending : s.sending = some f)
    (counts : s.mbr.station.counts = true) :
    s.voidDone = ((s.setLnk { s.lnk.endFrame with
      counters := s.lnk.counters.bump .voidsSeen }).setTxq s.txq.returned).countTxVoid := by
  rw [State.voidDone, sending]
  dsimp only
  rw [bump_of_counts (by exact counts)]
  rfl

/-- R76: a framing failure found by this station up to the confinement counter. -/
theorem framingFailure_of_own {s : State} (receives : s.lnk.state = .receiving)
    (drives : s.mbr.station.drives = true) {cause : FramingCause} (own : ownDetection cause = true) :
    s.framingFailure cause = (s.setLnk { s.lnk.breakOff (some (s.clock + Config.flagTime)) with
      counters := (s.lnk.counters.bump .voidsSeen).bump .checkFailures }).countRxFault := by
  have counts := drives_counts drives
  rw [State.framingFailure, if_pos receives, breakFrame_of_drives drives]
  dsimp only
  rw [if_pos own, bump_of_counts (i := .voidsSeen) (by exact counts),
    bump_of_counts (i := .checkFailures) (by exact counts)]
  rfl

/-- R76: another station's flag counts a void frame alone. -/
theorem framingFailure_of_flag {s : State} (receives : s.lnk.state = .receiving)
    (drives : s.mbr.station.drives = true) :
    s.framingFailure .stuffDominant =
      s.setLnk { s.lnk.breakOff (some (s.clock + Config.flagTime)) with
        counters := s.lnk.counters.bump .voidsSeen } := by
  have counts := drives_counts drives
  rw [State.framingFailure, if_pos receives, breakFrame_of_drives drives]
  exact bump_of_counts (by exact counts) _

theorem counts_notParked {x : Station} (counts : x.counts = true) : x ≠ .parkedLight := by
  rintro rfl
  cases counts

/-- The end of a frame being received, in a state that counts. -/
theorem arrive_of_counts {s : State} (receives : s.lnk.state = .receiving)
    (counts : s.mbr.station.counts = true) (kind : BitVec 3) (b : RxBody) (slots : Slots) :
    s.arrive kind b slots = s.arriveCounted kind b slots := by
  rw [State.arrive, if_neg (not_not.mpr receives), if_neg (counts_notParked counts)]

/-- R78: a frame whose check failed here. -/
theorem arrive_of_bad {s : State} (receives : s.lnk.state = .receiving)
    (counts : s.mbr.station.counts = true) {kind : BitVec 3} {b : RxBody}
    (bad : checkGood kind b = false) (slots : Slots) :
    s.arrive kind b slots = s.arriveBad (s.slotsDriven kind b).fault slots := by
  rw [arrive_of_counts receives counts, State.arriveCounted, bad]
  rfl

/-- R78, R85: FAULTed by this station, up to the confinement counter. -/
theorem arriveBad_of_faulted {s : State} (counts : s.mbr.station.counts = true) (slots : Slots) :
    s.arriveBad true slots = (s.setLnk { s.lnk.endFrame with
      counters := (s.lnk.counters.bump .checkFailures).bump .voidsSeen }).countRxFault := by
  rw [State.arriveBad, Bool.or_true, bump_of_counts (s := s.endFrame) (by exact counts)]
  dsimp only
  rw [if_pos rfl, if_pos rfl, bump_of_counts (by exact counts)]
  rfl

/-- R78: not FAULTed by this station. -/
theorem arriveBad_of_silent {s : State} (counts : s.mbr.station.counts = true) (slots : Slots) :
    s.arriveBad false slots = s.setLnk { s.lnk.endFrame with
      counters := if slots.fault then (s.lnk.counters.bump .checkFailures).bump .voidsSeen
                  else s.lnk.counters.bump .checkFailures } := by
  rw [State.arriveBad, Bool.or_false, bump_of_counts (s := s.endFrame) (by exact counts)]
  dsimp only
  rw [if_neg Bool.false_ne_true]
  split
  · exact bump_of_counts (by exact counts) _
  · rfl

/-- R77 to R79: the slots of a frame whose check failed here. -/
theorem slotsDriven_of_bad (s : State) {kind : BitVec 3} {b : RxBody}
    (bad : checkGood kind b = false) :
    s.slotsDriven kind b =
      { ack := false, fault := s.droveSlot Config.faultToEnd, veto := s.lnk.vetoDriven } := by
  rw [State.slotsDriven, bad, Bool.and_false, Bool.not_false, Bool.and_true]

/-- Settles O22. -/
theorem failuresCount : Obligations.FailuresCount := by
  refine ⟨fun s f ⟨ready, sends, wire⟩ => ⟨?_, fun drives short => ⟨?_, ?_⟩, fun quiet => ?_⟩,
    fun s ready receives drives => ⟨fun cause own short => ?_, ?_, fun kind b slots bad =>
      ⟨fun began short => ?_, fun t from_ late => ?_⟩⟩⟩
  · refine exec_becomes ready ((if_pos sends).trans ?_) ready.2
    rw [bump_eq]
    rfl
  · refine exec_becomes ready ((bitError_eq sends drives).trans ?_) ready.2
    exact countTxVoid_of_short drives short
  · have sending := (sending_of_transmitting sends).trans wire
    refine exec_becomes ready ((voidDone_eq sending (drives_counts drives)).trans ?_) ready.2
    exact countTxVoid_of_short drives short
  · have sending := (sending_of_transmitting sends).trans wire
    refine exec_becomes ready ((voidDone_eq sending (by rw [quiet]; rfl)).trans ?_) ready.2
    exact countTxVoid_of_silent (by rw [State.setTxq_mbr, State.setLnk_mbr, quiet]; rfl)
  · have detected : ownDetection cause = true := by rcases own with rfl | rfl <;> rfl
    refine exec_becomes ready ((framingFailure_of_own receives drives detected).trans ?_) ready.2
    exact countRxFault_of_short drives short
  · exact exec_becomes ready (framingFailure_of_flag receives drives) ready.2
  · have drove : s.droveSlot Config.faultToEnd = true := (droveSlot_iff s _).mpr ⟨drives, began⟩
    have driven := slotsDriven_of_bad s bad
    rw [drove] at driven
    refine ⟨driven, exec_becomes ready ((arrive_of_bad receives (drives_counts drives) bad _).trans ?_)
      ready.2⟩
    rw [driven, arriveBad_of_faulted (drives_counts drives)]
    exact countRxFault_of_short (by exact drives) (by exact short)
  · have drove : s.droveSlot Config.faultToEnd = false :=
      Bool.eq_false_iff.mpr fun drove => by
        have := ((droveSlot_iff s _).mp drove).2 t from_
        exact absurd late (Nat.not_lt.mpr this)
    have driven := slotsDriven_of_bad s bad
    rw [drove] at driven
    refine ⟨driven, exec_becomes ready ((arrive_of_bad receives (drives_counts drives) bad _).trans ?_)
      ready.2⟩
    rw [driven, arriveBad_of_silent (drives_counts drives)]

/-- R72, R78, R81: a frame whose check is good, up to its hand-on. -/
theorem arrive_of_good {s : State} (receives : s.lnk.state = .receiving)
    (counts : s.mbr.station.counts = true) {kind : BitVec 3} {b : RxBody}
    (good : checkGood kind b = true) (slots : Slots) :
    s.arrive kind b slots =
      if slots.fault then (s.endFrame.countMalformed (decodeFrame kind b)).bump .voidsSeen
      else (s.endFrame.countMalformed (decodeFrame kind b)).arriveGood.handOn kind b
        (!(slots.veto || s.lnk.vetoDriven)) := by
  rw [arrive_of_counts receives counts, State.arriveCounted, good]
  rfl

/-- R72, R85, R89: the counts of a good frame. -/
theorem arriveGood_of_counts {s : State} (counts : s.mbr.station.counts = true) :
    s.arriveGood = s.setLnk { s.lnk with
      rxFault := 0, counters := s.lnk.counters.bump .framesGood } := by
  rw [State.arriveGood, bump_of_counts counts]
  rfl

/-- R72: a MALFORMED frame counts. -/
theorem countMalformed_of_none {s : State} (counts : s.mbr.station.counts = true) :
    s.countMalformed none = s.setLnk { s.lnk with counters := s.lnk.counters.bump .malformed } :=
  bump_of_counts counts _

theorem countMalformed_of_some (s : State) {f : Option FrameBody} (decoded : f ≠ none) :
    s.countMalformed f = s := by
  obtain ⟨x, rfl⟩ := Option.ne_none_iff_exists'.mp decoded
  rfl

/-- R81: a MALFORMED frame of another station is handed to no block. -/
theorem handOn_of_malformed {s : State} {kind : BitVec 3} {b : RxBody}
    (other : b.source.toNat ≠ s.ownAddress) (malformed : decodeFrame kind b = none) (a : Bool) :
    s.handOn kind b a = s := by
  rw [State.handOn, if_neg other, malformed]

/-- Settles O24. -/
theorem unusedArrivalsAreCounted : Obligations.UnusedArrivalsAreCounted := by
  intro s kind b slots ready receives counts good
  refine ⟨fun malformed clear other => ?_, fun decoded fault => ?_⟩
  · refine exec_becomes ready ((arrive_of_good receives counts good slots).trans ?_) ready.2
    rw [if_neg (Bool.eq_false_iff.mp clear), malformed, countMalformed_of_none (by exact counts),
      arriveGood_of_counts (by exact counts), handOn_of_malformed (by exact other) malformed]
    rfl
  · refine exec_becomes ready ((arrive_of_good receives counts good slots).trans ?_) ready.2
    rw [if_pos fault, countMalformed_of_some _ decoded, bump_of_counts (by exact counts)]
    rfl

end Sys2Proof.Machine
end

section
/-! SUPPORT. The notices of a change outside MEMBER: no release target, no intent, and no event where the flags agree. -/

namespace Sys2Proof.Machine

/-- `t` differs from `s` at most in the overdraw flags and the events raised. -/
def FlagsOnly (s t : State) : Prop :=
  t = (s.setCjg { s.cjg with overdraw := t.cjg.overdraw }).setRaised t.raised

theorem FlagsOnly.trans {s t u : State} (h : FlagsOnly s t) (k : FlagsOnly t u) : FlagsOnly s u := by
  refine (show u = _ from k).trans ?_
  generalize u.cjg.overdraw = flags
  generalize u.raised = events
  rw [show t = _ from h]
  rfl

theorem FlagsOnly.notMember {s t : State} (h : FlagsOnly s t) (outside : s.isMember = false) :
    t.isMember = false := by
  rw [show t = _ from h]
  exact outside

/-- R41, R42: outside MEMBER a change of an overdraw flag computes no cut. -/
theorem evalOverdraw_flagsOnly {s : State} (outside : s.isMember = false) (r : Resource) :
    FlagsOnly s (s.evalOverdraw r) := by
  unfold State.evalOverdraw
  dsimp only
  split
  · split
    · rfl
    · rw [if_neg (Bool.eq_false_iff.mp outside)]
      rfl
  · split <;> rfl

/-- R19: the notice of a table change outside MEMBER. -/
theorem tableChanged_flagsOnly {s : State} (outside : s.isMember = false) :
    FlagsOnly s s.tableChanged := by
  have cool := evalOverdraw_flagsOnly outside .cool
  have heat := evalOverdraw_flagsOnly (cool.notMember outside) .heat
  exact (cool.trans heat).trans
    (evalOverdraw_flagsOnly (heat.notMember (cool.notMember outside)) .power)

/-- R142: outside MEMBER the onset of the interlock forces no release. -/
theorem recomputeCaps_txq {s : State} (outside : s.isMember = false) :
    s.recomputeCaps.txq = s.txq := by
  have interlock (img : Image) (e : Entry) : (s.evalInterlock img e).txq = s.txq := by
    unfold State.evalInterlock
    rw [outside, Bool.and_false]
    split <;> rfl
  unfold State.recomputeCaps
  split
  · dsimp only
    split
    · exact interlock _ _
    · exact interlock _ _
  · rfl

theorem selfChanged_txq {s : State} (outside : s.isMember = false) : s.selfChanged.txq = s.txq := by
  have flags := tableChanged_flagsOnly outside
  rw [State.selfChanged, recomputeCaps_txq (flags.notMember outside), show s.tableChanged = _ from flags,
    State.setRaised_txq, State.setCjg_txq]

theorem selfChanged_targets {s : State} (outside : s.isMember = false) :
    s.selfChanged.cjg.releaseTarget = s.cjg.releaseTarget := by
  rw [State.selfChanged, (recomputeCaps_caps _).cjg,
    show s.tableChanged = _ from tableChanged_flagsOnly outside, State.setRaised_cjg,
    State.setCjg_cjg]

theorem selfChanged_raised {s : State} (agrees : s.OverdrawAgrees) :
    s.selfChanged.raised = s.raised := by
  rw [State.selfChanged, (recomputeCaps_caps _).raised, tableChanged_same agrees]

/-- R23, R142: a self entry without demand stands in the notices of a change. -/
theorem SelfStands.unchanged {s t : State} (stands : s.SelfStands t)
    (idle : s.stb.self.map Entry.withoutValves = s.stb.self) : t.stb.self = s.stb.self := by
  rcases stands with same | zeroed
  · exact same
  · rw [zeroed, idle]

/-- R40: flags that are clear agree where no total exceeds its capacity. -/
theorem agrees_of_fits {s : State} (clear : s.cjg.overdraw = .all false)
    (fits : ∀ r, s.stb.total r ≤ (s.csr.capacity.get r).value) : s.OverdrawAgrees := fun r => by
  rw [clear, decide_eq_false (Nat.not_lt.mpr (fits r))]
  cases r <;> rfl

theorem fits_of_agrees {s : State} (agrees : s.OverdrawAgrees) (clear : s.cjg.overdraw = .all false)
    (r : Resource) : s.stb.total r ≤ (s.csr.capacity.get r).value := by
  have flag := agrees r
  rw [clear] at flag
  refine Nat.le_of_not_lt fun above => ?_
  rw [decide_eq_true above] at flag
  cases r <;> cases flag

end Sys2Proof.Machine
end

section
/-! SUPPORT. The stop of the Zone Loop, and a station that gives up its draws at a way out of MEMBER. -/

namespace Sys2Proof.Machine

theorem stopLoop_eq (s : State) :
    s.stopLoop = ((s.setZlp s.stopLoop.zlp).setDcc s.stopLoop.dcc).setRaised s.stopLoop.raised := by
  unfold State.stopLoop State.endDoorHold
  dsimp only
  split <;> rfl

/-- R125, R134, R143: the stopped loop. -/
theorem stopLoop_stopped (s : State) : s.stopLoop.zlp.Stopped := by
  unfold State.stopLoop State.endDoorHold
  dsimp only
  split <;> exact ⟨rfl, rfl, rfl, rfl, rfl, rfl, rfl, rfl⟩

/-- R134: without a door hold the stop raises no event. -/
theorem stopLoop_raised {s : State} (noHold : s.zlp.hold = .none) : s.stopLoop.raised = s.raised := by
  unfold State.stopLoop State.endDoorHold
  dsimp only
  rw [if_pos noHold]
  rfl

theorem setAdoption_stopLoop (s : State) (b : Bool) :
    (s.setAdoption b).stopLoop = s.stopLoop.setAdoption b := by
  unfold State.stopLoop State.endDoorHold
  dsimp only
  split
  next h => rw [if_pos (by exact h)]; rfl
  next h => rw [if_neg (by exact h)]; rfl

theorem setAdoption_capacity (s : State) (b : Bool) (r : Resource) :
    (s.setAdoption b).csr.capacity.get r = { s.csr.capacity.get r with adoption := b } := by
  cases r <;> rfl

/-- R23, R25: own draws and release targets given up outside MEMBER. -/
structure GaveUp (s t : State) : Prop where
  stb : t.stb = { s.stb with self := s.stb.self.map Entry.zeroed }
  txq : t.txq = s.txq
  targets : t.cjg.releaseTarget = .all none
  request : t.cjg.ownRequest = s.cjg.ownRequest
  veto : t.cjg.lastVeto = s.cjg.lastVeto
  csr : t.csr = s.csr
  lnk : t.lnk = s.lnk
  mbr : t.mbr = s.mbr
  sup : t.sup = s.sup
  cfg : t.cfg = s.cfg
  svc : t.svc = s.svc
  clock : t.clock = s.clock
  pending : t.pending = s.pending
  raised : s.Calm → t.raised = s.raised

/-- R17, R23: the totals without the own draws. -/
theorem total_zeroed_le (s : State) (r : Resource) :
    ((s.dropTargets).mapSelf Entry.zeroed).stb.total r ≤ s.stb.total r := by
  show (ShareTable.total { s.stb with self := s.stb.self.map Entry.zeroed } r) ≤ _
  simp only [ShareTable.total, ShareTable.counted, List.map_append, List.sum_append]
  refine Nat.add_le_add_right ?_ _
  cases s.stb.self with
  | none => exact Nat.le_refl _
  | some e => cases r <;> exact Nat.zero_le _

/-- R23: outside MEMBER the draws given up ask for nothing, and raise no event where all is calm. -/
theorem zeroSelf_gaveUp {s : State} (outside : s.isMember = false) : GaveUp s s.zeroSelf := by
  have before : ((s.dropTargets).mapSelf Entry.zeroed).isMember = false := outside
  have idle : ((s.dropTargets).mapSelf Entry.zeroed).stb.self.map Entry.withoutValves =
      ((s.dropTargets).mapSelf Entry.zeroed).stb.self := by
    show (s.stb.self.map Entry.zeroed).map Entry.withoutValves = s.stb.self.map Entry.zeroed
    rw [Option.map_map]
    rfl
  have agrees (calm : s.Calm) : ((s.dropTargets).mapSelf Entry.zeroed).OverdrawAgrees :=
    agrees_of_fits calm.1 fun r => (total_zeroed_le s r).trans (fits_of_agrees calm.2.1 calm.1 r)
  have rest : (s.dropTargets).mapSelf Entry.zeroed =
      (s.setCjg { s.cjg with releaseTarget := .all none }).setStb
        { s.stb with self := s.stb.self.map Entry.zeroed } := rfl
  unfold State.zeroSelf
  generalize (s.dropTargets).mapSelf Entry.zeroed = y at before idle agrees rest ⊢
  have table := selfChanged_table y
  have notice := table.notice
  constructor
  · rw [notice.stb, SelfStands.unchanged table.self idle, rest]; rfl
  · rw [selfChanged_txq before, rest]; rfl
  · rw [selfChanged_targets before, rest]; rfl
  · rw [table.request, rest]; rfl
  · rw [table.veto, rest]; rfl
  · rw [notice.csr, rest]; rfl
  · rw [notice.lnk, rest]; rfl
  · rw [notice.mbr, rest]; rfl
  · rw [notice.sup, rest]; rfl
  · rw [notice.cfg, rest]; rfl
  · rw [notice.svc, rest]; rfl
  · rw [notice.clock, rest]; rfl
  · rw [notice.pending, rest]; rfl
  · intro calm
    rw [selfChanged_raised (agrees calm), rest]; rfl

theorem zeroSelf_hold (s : State) : s.zeroSelf.zlp.hold = s.zlp.hold := by
  rw [State.zeroSelf, (selfChanged_table ((s.dropTargets).mapSelf Entry.zeroed)).zlp]
  rfl

/-- R25, R125: and the Zone Loop stopped. -/
theorem zeroSelf_stopLoop_gaveUp {s : State} (outside : s.isMember = false) :
    GaveUp s s.zeroSelf.stopLoop := by
  have gave := zeroSelf_gaveUp outside
  have hold := zeroSelf_hold s
  generalize s.zeroSelf = z at gave hold ⊢
  have rest := stopLoop_eq z
  have quiet (calm : s.Calm) : z.stopLoop.raised = s.raised := by
    rw [stopLoop_raised (hold.trans calm.2.2), gave.raised calm]
  generalize z.stopLoop = t at rest quiet ⊢
  obtain ⟨stb, txq, targets, request, veto, csr, lnk, mbr, sup, cfg, svc, clock, pending, -⟩ := gave
  constructor <;> first | assumption | (rw [rest]; assumption)

/-- The Service Line at the end of a command that raised one event. -/
theorem flush_svc_of_one {s t : State} {o : Origin} {k : EventKind} {p : Option Nat}
    {r : Option Resource} {v : Option Nat} (svc : t.svc = s.svc)
    (raised : t.raised = [{ origin := o, record := s.event k p r v }]) :
    t.flush.svc = s.svc.post (s.event k p r v) := by
  rw [State.flush_of_one raised, State.setRaised_svc, State.setSvc_svc, svc]

end Sys2Proof.Machine
end

section
/-! PROOF. LINK_QUIET at the sixteenth frame, and a member's self-lapse. -/

namespace Sys2Proof.Machine

/-- R86, R113: the state in which LINK_QUIET gives up the draws. -/
def State.quieted (s : State) (value : Nat) : State :=
  (((s.raise lnkOrigin .linkQuiet none none (some value)).setMbr { s.mbr with
    station := .linkQuiet, settleTimer := none, censusTimer := none, selfSilence := .stopped }).setLnk
    { s.lnk with txVoid := 0, rxFault := 0, quietTimer := s.after Config.quietTime }).setTxq .reset

theorem enterLinkQuiet_eq (s : State) (value : Nat) :
    s.enterLinkQuiet value = ((s.quieted value).zeroSelf.stopLoop).setAdoption true :=
  setAdoption_stopLoop _ true

/-- R84 to R86: each command that counts the sixteenth frame enters LINK_QUIET from a state that differs in link and queue alone. -/
theorem sixteenth_enters {s : State} {c : Instr} {value : Nat} (drives : s.mbr.station.drives = true)
    (sixteenth : s.lnk.state = .transmitting ∧ s.lnk.wire.isSome = true ∧ s.lnk.txVoid = 15 ∧
        (c = .bitError ∨ c = .voidCompletion) ∧ value = 1 ∨
      s.lnk.state = .receiving ∧ s.lnk.rxFault = 15 ∧ value = 2 ∧
        (c = .framingFailure .stuffRecessive ∨
          ∃ kind b slots, (s.slotsDriven kind b).fault = true ∧ c = .voidArrival kind b slots)) :
    ∃ x : State, effect c s = x.enterLinkQuiet value ∧ x = (s.setLnk x.lnk).setTxq x.txq := by
  have counts := drives_counts drives
  rcases sixteenth with ⟨sends, wired, limit, own, rfl⟩ | ⟨receives, limit, rfl, found⟩
  · obtain ⟨f, wire⟩ := Option.isSome_iff_exists.mp wired
    rcases own with rfl | rfl
    · have acts := bitError_eq sends drives
      rw [countTxVoid_of_limit (by exact drives) (by exact limit)] at acts
      exact ⟨_, acts, rfl⟩
    · have acts := voidDone_eq ((sending_of_transmitting sends).trans wire) counts
      rw [countTxVoid_of_limit (by exact drives) (by exact limit)] at acts
      exact ⟨_, acts, rfl⟩
  · rcases found with rfl | ⟨kind, b, slots, fault, rfl⟩
    · have acts := framingFailure_of_own (cause := .stuffRecessive) receives drives rfl
      rw [countRxFault_of_limit (by exact drives) (by exact limit)] at acts
      exact ⟨_, acts, rfl⟩
    · have bad : checkGood kind b = false := by
        have both := (Bool.and_eq_true _ _).mp fault
        exact Bool.not_eq_true' _ |>.mp both.2
      have acts := arrive_of_bad receives counts bad slots
      rw [fault, arriveBad_of_faulted counts,
        countRxFault_of_limit (by exact drives) (by exact limit)] at acts
      exact ⟨_, acts, rfl⟩

/-- Settles O23. -/
theorem sixteenthEntersLinkQuiet : Obligations.SixteenthEntersLinkQuiet := by
  intro s c value ready drives sixteenth
  obtain ⟨x, acts, rest⟩ := sixteenth_enters drives sixteenth
  refine ⟨_, exec_of_running ready.1 c, ?_⟩
  rw [acts, enterLinkQuiet_eq]
  generalize x.lnk = l, x.txq = q at rest
  subst rest
  have gave := zeroSelf_stopLoop_gaveUp (s := ((s.setLnk l).setTxq q).quieted value) rfl
  have stopped := stopLoop_stopped (((s.setLnk l).setTxq q).quieted value).zeroSelf
  generalize (((s.setLnk l).setTxq q).quieted value).zeroSelf.stopLoop = t at gave stopped
  refine ⟨gave.mbr, ?_, ?_, ?_, gave.txq, gave.stb, gave.targets, gave.request, gave.veto,
    fun r => ?_, ?_, stopped, fun calm => ?_, gave.sup, gave.cfg, gave.clock, gave.pending⟩
  · exact congrArg Link.txVoid gave.lnk
  · exact congrArg Link.rxFault gave.lnk
  · exact congrArg Link.quietTimer gave.lnk
  · rw [State.flush_csr, setAdoption_capacity, gave.csr]
    rfl
  · have setpoint := congrArg Records.setpoint gave.csr
    exact setpoint
  · refine flush_svc_of_one (o := lnkOrigin) gave.svc ((gave.raised calm).trans ?_)
    show s.raised ++ _ = _
    rw [ready.2]
    rfl

/-- R28, R79, R112: the state in which a self-lapse gives up the draws. -/
def State.lapsing (s : State) : State :=
  (s.withholdVeto.setMbr { s.mbr with selfSilence := .expired, station := .joining }).raise mbrOrigin
    .lapsedSelf none none (some s.lnk.txVoid)

/-- R28, R79: a VETO whose slot has begun stands. -/
theorem withholdVeto_of_begun {s : State}
    (begun : ¬(s.lnk.vetoDriven = true ∧ s.clock < s.lnk.vetoNote.slot)) : s.withholdVeto = s := by
  refine if_neg fun due => begun ?_
  rw [Bool.and_eq_true, decide_eq_true_iff] at due
  exact due

/-- R28, R79: a VETO whose slot is to come is neither driven nor recorded nor counted. -/
theorem withholdVeto_of_due {s : State} (driven : s.lnk.vetoDriven = true)
    (due : s.clock < s.lnk.vetoNote.slot) :
    s.withholdVeto = (s.setCjg { s.cjg with lastVeto := s.lnk.vetoNote.record }).setLnk { s.lnk with
      vetoDriven := false
      counters := { s.lnk.counters with
        vetoesDriven := s.lnk.vetoNote.uncount s.lnk.counters.vetoesDriven } } := by
  refine if_pos ?_
  rw [driven, Bool.true_and]
  exact decide_eq_true due

theorem withholdVeto_setMbr (s : State) (m : Membership) :
    (s.setMbr m).withholdVeto = s.withholdVeto.setMbr m := by
  by_cases due : s.lnk.vetoDriven = true ∧ s.clock < s.lnk.vetoNote.slot
  · rw [withholdVeto_of_due due.1 due.2, withholdVeto_of_due (s := s.setMbr m) due.1 due.2]
    rfl
  · rw [withholdVeto_of_begun due, withholdVeto_of_begun (s := s.setMbr m) due]

theorem withholdVeto_calm {s : State} (calm : s.Calm) : s.withholdVeto.Calm := by
  unfold State.withholdVeto
  split <;> exact calm

/-- R79, R112: what a self-lapse leaves of link and veto record. -/
theorem lapsing_facts (s : State) :
    s.lapsing.stb = s.stb ∧ s.lapsing.txq = s.txq ∧ s.lapsing.cjg.ownRequest = s.cjg.ownRequest ∧
      s.lapsing.csr = s.csr ∧ s.lapsing.sup = s.sup ∧ s.lapsing.cfg = s.cfg ∧
      s.lapsing.svc = s.svc ∧ s.lapsing.clock = s.clock ∧ s.lapsing.pending = s.pending ∧
      s.lapsing.raised = s.raised ++
        [⟨mbrOrigin, s.event .lapsedSelf none none (some s.lnk.txVoid)⟩] := by
  unfold State.lapsing State.withholdVeto
  split <;> exact ⟨rfl, rfl, rfl, rfl, rfl, rfl, rfl, rfl, rfl, rfl⟩

/-- R111, R112: the expiry of the self-silence timer in MEMBER. -/
theorem silenceEnd_of_member {s : State} {deadline : Nat}
    (running : s.mbr.selfSilence = .running deadline) (member : s.mbr.station = .member) :
    s.silenceEnd = s.lapsing.zeroSelf.stopLoop.enterJoining := by
  have acts : s.silenceEnd = (s.setMbr { s.mbr with selfSilence := .expired }).selfLapse := by
    rw [State.silenceEnd, running]
    exact if_pos (decide_eq_true member)
  rw [acts, State.selfLapse, withholdVeto_setMbr]
  rfl

theorem silenceEnd_of_joining {s : State} {deadline : Nat}
    (running : s.mbr.selfSilence = .running deadline) (joining : s.mbr.station = .joining) :
    s.silenceEnd = s.setMbr { s.mbr with selfSilence := .expired } := by
  rw [State.silenceEnd, running]
  refine if_neg fun member => ?_
  rw [isMember_iff] at member
  cases joining.symm.trans member

/-- R102, R108: the entry to JOINING. -/
theorem enterJoining_eq (s : State) :
    s.enterJoining = ((s.setMbr { s.mbr with
        station := .joining, settleTimer := none, censusTimer := none }).setTxq
        ({ s.txq with step := .all .full, holdOff := .all none, spacing := .all none }.ask .join)).setCsr
      { s.csr with capacity := s.csr.capacity.map fun c => { c with adoption := true } } := rfl

@[simp] theorem enterJoining_stb (s : State) : s.enterJoining.stb = s.stb := rfl
@[simp] theorem enterJoining_cjg (s : State) : s.enterJoining.cjg = s.cjg := rfl
@[simp] theorem enterJoining_lnk (s : State) : s.enterJoining.lnk = s.lnk := rfl
@[simp] theorem enterJoining_zlp (s : State) : s.enterJoining.zlp = s.zlp := rfl
@[simp] theorem enterJoining_sup (s : State) : s.enterJoining.sup = s.sup := rfl
@[simp] theorem enterJoining_cfg (s : State) : s.enterJoining.cfg = s.cfg := rfl
@[simp] theorem enterJoining_svc (s : State) : s.enterJoining.svc = s.svc := rfl
@[simp] theorem enterJoining_clock (s : State) : s.enterJoining.clock = s.clock := rfl
@[simp] theorem enterJoining_raised (s : State) : s.enterJoining.raised = s.raised := rfl
@[simp] theorem enterJoining_pending (s : State) : s.enterJoining.pending = s.pending := rfl

/-- Settles O43. -/
theorem silentMemberLapses : Obligations.SilentMemberLapses := by
  refine fun s deadline ready running => ⟨fun joining => ?_, fun member => ?_⟩
  · exact exec_becomes ready (silenceEnd_of_joining running joining) ready.2
  · have acts : effect .selfSilenceExpiry s = _ := silenceEnd_of_member running member
    refine ⟨_, exec_of_running ready.1 _, ?_⟩
    rw [acts]
    have gave := zeroSelf_stopLoop_gaveUp (s := s.lapsing) rfl
    have stopped := stopLoop_stopped s.lapsing.zeroSelf
    obtain ⟨stb, txq, request, csr, sup, cfg, svc, clock, pending, raised⟩ := lapsing_facts s
    have lnk : s.lapsing.lnk = s.withholdVeto.lnk := rfl
    have veto : s.lapsing.cjg.lastVeto = s.withholdVeto.cjg.lastVeto := rfl
    have mbr : s.lapsing.mbr = { s.mbr with selfSilence := .expired, station := .joining } := rfl
    have calms (calm : s.Calm) : s.lapsing.Calm := withholdVeto_calm calm
    generalize s.lapsing.zeroSelf.stopLoop = t, s.lapsing = x at *
    refine ⟨?_, ?_, ?_, ?_, ?_, fun r => ?_, ?_, ?_, fun begun => ?_, fun driven due => ?_,
      fun calm => ?_, ?_, ?_, ?_, ?_⟩
    · rw [State.flush_mbr, enterJoining_eq, State.setCsr_mbr, State.setTxq_mbr, State.setMbr_mbr,
        gave.mbr, mbr]
    · rw [State.flush_stb, enterJoining_stb, gave.stb, stb]
      rfl
    · rw [State.flush_txq, enterJoining_eq, State.setCsr_txq, State.setTxq_txq, gave.txq, txq]
    · rw [State.flush_cjg, enterJoining_cjg, gave.targets]
    · rw [State.flush_cjg, enterJoining_cjg, gave.request, request]
    · rw [State.flush_csr, enterJoining_eq, State.setCsr_csr, gave.csr, csr]
      cases r <;> rfl
    · rw [State.flush_csr, enterJoining_eq, State.setCsr_csr, gave.csr, csr]
    · rw [State.flush_zlp, enterJoining_zlp]
      exact stopped
    · rw [withholdVeto_of_begun begun] at lnk veto
      rw [State.flush_lnk, State.flush_cjg, enterJoining_lnk, enterJoining_cjg]
      exact ⟨gave.lnk.trans lnk, gave.veto.trans veto⟩
    · rw [withholdVeto_of_due driven due] at lnk veto
      rw [State.flush_lnk, State.flush_cjg, enterJoining_lnk, enterJoining_cjg]
      exact ⟨gave.lnk.trans lnk, gave.veto.trans veto⟩
    · refine flush_svc_of_one (o := mbrOrigin) ?_ ?_
      · rw [enterJoining_svc, gave.svc, svc]
      · rw [enterJoining_raised, gave.raised (calms calm), raised, ready.2]
        rfl
    · rw [State.flush_sup, enterJoining_sup, gave.sup, sup]
    · rw [State.flush_cfg, enterJoining_cfg, gave.cfg, cfg]
    · rw [State.flush_clock, enterJoining_clock, gave.clock, clock]
    · rw [State.flush_pending, enterJoining_pending, gave.pending, pending]

end Sys2Proof.Machine
end

section
/-! PROOF. A station joins and is a member; a parked station wakes. -/

namespace Sys2Proof.Machine

/-- R189: a silent state to which one event is added ends its command with that event posted. -/
theorem flush_of_added {s x : State} (quiet : s.raised = []) (silent : x.raised = []) (e : Raised) :
    (x.setRaised (s.raised ++ [e])).flush = x.setSvc (x.svc.post e.record) := by
  have one : (x.setRaised (s.raised ++ [e])).raised = [e] := by
    rw [State.setRaised_raised, quiet, List.nil_append]
  rw [State.flush_of_one one]
  show (x.setSvc (x.svc.post e.record)).setRaised [] = _
  rw [← silent]
  rfl

/-- R110: the entry to MEMBER, its event raised last. -/
theorem enterMember_eq (s : State) :
    s.enterMember = (((((s.setMbr { s.mbr with station := .member, censusTimer := none }).setCsr
      { s.csr with capacity := s.csr.capacity.map fun c => { c with adoption := false } }).setTxq
      (if s.csr.anyExpired then s.txq.ask .supplyLapse else s.txq)).setZlp
      (s.zlp.enter (some (s.clock + Config.controlInterval)))).setDcc
      { s.dcc with fan := s.dcc.fan.closeWindow }).setRaised (s.raised ++ [{
        origin := mbrOrigin, record := s.event .joined none none (some s.stb.presentPeers) }]) := by
  unfold State.enterMember
  dsimp only
  have expired : (((s.setMbr { s.mbr with station := .member, censusTimer := none }).raise mbrOrigin
      .joined none none (some s.stb.presentPeers)).setAdoption false).csr.anyExpired =
      s.csr.anyExpired := rfl
  rw [expired]
  split <;> rfl

theorem settled_of_settling {s : State} (settling : s.mbr.station = .settling)
    (running : s.mbr.settleTimer.isSome = true) : s.settled = s.enterJoining := by
  obtain ⟨t, timer⟩ := Option.isSome_iff_exists.mp running
  rw [State.settled, timer]
  exact if_pos settling

theorem quietEnd_of_linkQuiet {s : State} (quiet : s.mbr.station = .linkQuiet)
    (running : s.lnk.quietTimer.isSome = true) :
    s.quietEnd = (s.setLnk (s.lnk.endQuiet s.clock)).enterJoining := by
  obtain ⟨t, timer⟩ := Option.isSome_iff_exists.mp running
  rw [State.quietEnd, timer]
  exact if_pos quiet

theorem censusEnd_of_joining {s : State} (joining : s.mbr.station = .joining)
    (running : s.mbr.censusTimer.isSome = true) : s.censusEnd = s.enterMember := by
  obtain ⟨t, timer⟩ := Option.isSome_iff_exists.mp running
  rw [State.censusEnd, timer]
  exact if_pos joining

/-- Settles O42. -/
theorem stationJoinsAndIsMember : Obligations.StationJoinsAndIsMember := by
  refine ⟨fun s ready => ⟨fun settling running => ?_, fun quiet running => ?_⟩,
    fun s ready joining running => ?_⟩
  · exact exec_becomes ready ((settled_of_settling settling running).trans (enterJoining_eq s)) ready.2
  · exact exec_becomes ready ((quietEnd_of_linkQuiet quiet running).trans (enterJoining_eq _)) ready.2
  · have acts : effect .censusTimerExpiry s = _ :=
      (censusEnd_of_joining joining running).trans (enterMember_eq s)
    rw [exec_of_running ready.1, acts, flush_of_added ready.2 (by exact ready.2)]
    rfl

/-- R107, R119 to R121: the station woken into SETTLING, its event raised last. -/
theorem wakeUp_eq (s : State) (w : WakeSource) :
    s.wakeUp w = (((s.setLnk s.lnk.follow).setMbr { s.mbr with
      station := .settling
      settleTimer := if s.lnk.state = .idle then some (s.clock + Config.settleTime) else none
      censusTimer := none, selfSilence := .stopped, wakeTimer := none, sampleTimer := none
      parkDepth := none, lastWake := w }).setDcc
      { s.dcc with damper := s.dcc.damper.home s.clock }).setRaised (s.raised ++ [{
        origin := mbrOrigin, record := s.event .woken w.peer none (some w.value) }]) := by
  have idle : s.lnk.follow.state = .idle ↔ s.lnk.state = .idle := by
    unfold Link.follow
    split
    next off => rw [off]; exact ⟨nofun, nofun⟩
    next => exact Iff.rfl
  have timer : (if s.lnk.follow.state = .idle then some (s.clock + Config.settleTime) else none) =
      if s.lnk.state = .idle then some (s.clock + Config.settleTime) else none :=
    if_congr idle rfl rfl
  rw [← timer]
  rfl

/-- The state that a wake leaves between commands. -/
def State.awake (s : State) (w : WakeSource) : State :=
  ((((s.setLnk s.lnk.follow).setMbr { s.mbr with
    station := .settling
    settleTimer := if s.lnk.state = .idle then some (s.clock + Config.settleTime) else none
    censusTimer := none, selfSilence := .stopped, wakeTimer := none, sampleTimer := none
    parkDepth := none, lastWake := w }).setDcc
    { s.dcc with damper := s.dcc.damper.home s.clock }).setSvc
    (s.svc.post (s.event .woken w.peer none (some w.value))))

theorem wakeUp_flush {s : State} (quiet : s.raised = []) (w : WakeSource) :
    (s.wakeUp w).flush = s.awake w := by
  rw [wakeUp_eq, flush_of_added quiet (by exact quiet)]
  rfl

/-- The state that a freeze wake leaves between commands. -/
def State.frozenAwake (s : State) : State :=
  (s.awake .freeze).setMbr { (s.awake .freeze).mbr with freezeWake := true }

theorem wakeFrozen_flush {s : State} (quiet : s.raised = []) :
    s.wakeFrozen.flush = s.frozenAwake := by
  rw [State.frozenAwake, ← wakeUp_flush quiet]
  rfl

theorem awake_woken (s : State) (w : WakeSource) :
    s.Woken (s.awake w) w s.mbr.freezeWake s.lnk :=
  ⟨rfl, rfl, rfl, rfl, rfl, rfl, rfl, rfl, rfl, rfl, rfl⟩

theorem frozenAwake_woken (s : State) : s.Woken s.frozenAwake .freeze true s.lnk := by
  obtain ⟨lnk, mbr, rest⟩ := awake_woken s .freeze
  exact ⟨lnk, by rw [State.frozenAwake, State.setMbr_mbr, mbr], rest⟩

theorem woken_of_setZlp {s t : State} {z : ZoneLoop} {w : WakeSource} {freeze : Bool} {l : Link}
    (woken : (s.setZlp z).Woken t w freeze l) : s.Woken t w freeze l := woken

theorem wakeEnd_of_parked {s : State} (parked : s.mbr.station.parked = true)
    (running : s.mbr.wakeTimer.isSome = true) : s.wakeEnd = s.wakeAndCall .timer := by
  obtain ⟨t, timer⟩ := Option.isSome_iff_exists.mp running
  rw [State.wakeEnd, timer]
  exact if_pos parked

/-- R117, R120: a good, non-void WAKE in PARKED_LIGHT. -/
theorem arrive_wakes {s : State} (parked : s.mbr.station = .parkedLight)
    (receives : s.lnk.state = .receiving) {b : RxBody} {slots : Slots}
    (good : checkGood 1#3 b = true) (clear : slots.fault = false)
    (wake : decodeFrame 1#3 b = some .wake) :
    s.arrive 1#3 b slots = s.endFrame.wakeUp (.wakeFrame b.source.toNat) := by
  rw [State.arrive, if_neg (not_not.mpr receives), if_pos parked, State.arriveParked, good, clear]
  exact if_pos (decide_eq_true wake)

/-- R121, R122: a freeze sample in PARKED_LIGHT. -/
theorem freezeSample_of_running {s : State} {img : Image} (image : s.cfg.image = some img)
    (parked : s.mbr.station = .parkedLight) (running : s.mbr.sampleTimer.isSome = true)
    (count : BitVec 12) :
    s.freezeSample count =
      if (convert img.returnCal count).freezing then
        (s.setZlp { s.zlp with zone := convert img.returnCal count }).wakeFrozen
      else (s.setZlp { s.zlp with zone := convert img.returnCal count }).setMbr
        { s.mbr with sampleTimer := some (s.clock + Config.sampleTime) } := by
  obtain ⟨t, timer⟩ := Option.isSome_iff_exists.mp running
  rw [State.freezeSample, timer, State.readReturn_of_image image]
  exact if_pos parked

/-- R121: a reading is freezing exactly when it is valid and below 5.0 °C. -/
theorem freezing_iff (x : Reading) : x.freezing = true ↔ ∃ t, x = .valid t ∧ t < 50 := by
  cases x with
  | valid t =>
    refine ⟨fun below => ⟨t, rfl, of_decide_eq_true below⟩, ?_⟩
    rintro ⟨t', same, below⟩
    cases same
    exact decide_eq_true below
  | absent => exact ⟨nofun, nofun⟩
  | faulted => exact ⟨nofun, nofun⟩

/-- Settles O45. -/
theorem parkedStationWakes : Obligations.ParkedStationWakes := by
  refine fun s ready parked => ⟨?_, fun running => ?_, fun b slots light receives good clear wake => ?_,
    fun count img light running image => ⟨fun freezes => ?_, fun warm => ?_⟩⟩
  · have acts : effect .wakeinActive s = s.wakeAndCall .pin := if_pos parked
    refine ⟨(s.awake .pin).ask .wake, ?_, awake_woken s .pin, rfl, rfl⟩
    rw [exec_of_running ready.1, acts, ← wakeUp_flush ready.2]
    rfl
  · have acts : effect .wakeTimerExpiry s = s.wakeAndCall .timer := wakeEnd_of_parked parked running
    refine ⟨(s.awake .timer).ask .wake, ?_, awake_woken s .timer, rfl, rfl⟩
    rw [exec_of_running ready.1, acts, ← wakeUp_flush ready.2]
    rfl
  · have acts : effect (.wakeArrival b slots) s = _ := arrive_wakes light receives good clear wake
    refine ⟨s.endFrame.awake (.wakeFrame b.source.toNat), ?_, awake_woken s.endFrame _, rfl, rfl⟩
    rw [exec_of_running ready.1, acts, wakeUp_flush (by exact ready.2)]
  · have acts : effect (.sampleTimerExpiry count) s = _ :=
      (freezeSample_of_running image light running count).trans (if_pos ((freezing_iff _).mpr freezes))
    refine ⟨(s.setZlp { s.zlp with zone := convert img.returnCal count }).frozenAwake, ?_,
      woken_of_setZlp (frozenAwake_woken _), rfl, rfl⟩
    rw [exec_of_running ready.1, acts, wakeFrozen_flush (by exact ready.2)]
  · have notFreezing : ¬ (convert img.returnCal count).freezing = true := by
      rw [freezing_iff]
      rintro ⟨x, valid, below⟩
      exact absurd below (Int.not_lt.mpr (warm x valid))
    exact exec_becomes ready ((freezeSample_of_running image light running count).trans
      (if_neg notFreezing)) ready.2

end Sys2Proof.Machine
end

section
/-! SUPPORT. The clear of PARK and ISOLATED: table, judge, records and queue, the loop stopped and every channel forced off. -/

namespace Sys2Proof.Machine

/-- R22, R25, R59: the clear before its notices. -/
def State.clearing (s : State) (img : Image) : State :=
  ((s.setStb (.started img s.sup.shed s.stb.ageTimer)).setCsr
    { s.csr with capacity := img.fallback.map CapacityRecord.start }).setCjg
      { s.cjg with releaseTarget := .all none, ownRequest := .all .cleared }

theorem clearShares_of_image {s : State} {img : Image} (image : s.cfg.image = some img) :
    s.clearShares = (s.clearing img).selfChanged := by
  have table : s.clearTable = s.setStb (.started img s.sup.shed s.stb.ageTimer) := by
    rw [State.clearTable, image]
  have capacity : s.clearTable.startCapacity = s.clearTable.setCsr
      { s.clearTable.csr with capacity := img.fallback.map CapacityRecord.start } := by
    rw [State.startCapacity, show s.clearTable.cfg.image = some img by rw [table]; exact image]
  rw [State.clearShares, capacity, table]
  rfl

/-- R22, R25, R59: what the clear leaves outside MEMBER. -/
structure ClearedShares (s t : State) (img : Image) : Prop where
  stb : t.stb = .started img s.sup.shed s.stb.ageTimer
  cjg : t.cjg = { s.cjg with overdraw := .all false, releaseTarget := .all none
                             ownRequest := .all .cleared }
  csr : t.csr = { s.csr with capacity := img.fallback.map CapacityRecord.start }
  txq : t.txq = s.txq
  lnk : t.lnk = s.lnk
  mbr : t.mbr = s.mbr
  sup : t.sup = s.sup
  cfg : t.cfg = s.cfg
  svc : t.svc = s.svc
  clock : t.clock = s.clock
  pending : t.pending = s.pending
  hold : t.zlp.hold = s.zlp.hold
  raised : s.cjg.overdraw = .all false → t.raised = s.raised

/-- R40: with no draw every flag is clear. -/
theorem overdraw_of_no_draw {s : State} (agrees : s.OverdrawAgrees) (idle : ∀ r, s.stb.total r = 0) :
    s.cjg.overdraw = .all false := by
  have clear (r : Resource) : s.cjg.overdraw.get r = false := by
    rw [agrees r, idle r]
    exact decide_eq_false (Nat.not_lt_zero _)
  have cool := clear .cool
  have heat := clear .heat
  have power := clear .power
  generalize s.cjg.overdraw = flags at cool heat power
  cases flags
  rw [Per.all]
  congr

theorem clearShares_cleared {s : State} {img : Image} (image : s.cfg.image = some img)
    (outside : s.isMember = false) : ClearedShares s s.clearShares img := by
  rw [clearShares_of_image image]
  have before : (s.clearing img).isMember = false := outside
  have idle : (s.clearing img).stb.self.map Entry.withoutValves = (s.clearing img).stb.self := rfl
  have total (r : Resource) : (s.clearing img).stb.total r = 0 := total_started _ _ _ r
  have agrees (clear : s.cjg.overdraw = .all false) : (s.clearing img).OverdrawAgrees :=
    agrees_of_fits clear fun r => (total r).le.trans (Nat.zero_le _)
  have rest : s.clearing img = ((s.setStb (.started img s.sup.shed s.stb.ageTimer)).setCsr
    { s.csr with capacity := img.fallback.map CapacityRecord.start }).setCjg
      { s.cjg with releaseTarget := .all none, ownRequest := .all .cleared } := rfl
  generalize s.clearing img = y at before idle total agrees rest ⊢
  have table := selfChanged_table y
  have notice := table.notice
  have flags : y.selfChanged.cjg.overdraw = .all false :=
    overdraw_of_no_draw (selfChanged_agrees y) fun r => (table.total r).trans (total r)
  have targets := selfChanged_targets before
  have stb : y.selfChanged.stb = y.stb := by
    rw [notice.stb, SelfStands.unchanged table.self idle]
  constructor
  · rw [stb, rest, State.setCjg_stb, State.setCsr_stb, State.setStb_stb]
  · have request := table.request
    have veto := table.veto
    generalize y.selfChanged.cjg = j at flags targets request veto ⊢
    cases j
    rw [rest] at targets request veto
    cases flags
    cases targets
    cases request
    cases veto
    rfl
  · rw [notice.csr, rest]; rfl
  · rw [selfChanged_txq before, rest]; rfl
  · rw [notice.lnk, rest]; rfl
  · rw [notice.mbr, rest]; rfl
  · rw [notice.sup, rest]; rfl
  · rw [notice.cfg, rest]; rfl
  · rw [notice.svc, rest]; rfl
  · rw [notice.clock, rest]; rfl
  · rw [notice.pending, rest]; rfl
  · rw [table.zlp, rest]; rfl
  · intro clear
    rw [selfChanged_raised (agrees clear), rest]; rfl

/-- R154: a retarget leaves the target. -/
theorem retarget_target (m : Damper) (k : Nat) : (m.retarget k).target = m.target := by
  unfold Damper.retarget
  split
  · split <;> rfl
  · split <;> rfl
  · unfold Damper.moveFromIdle
    split
    · rfl
    · split
      · rfl
      · split <;> rfl
  · rfl
  · rfl

theorem push_target (m : Damper) (target travel k : Nat) (moves : Bool) :
    (m.push target travel k moves).target = min target travel := by
  unfold Damper.push
  dsimp only
  split
  · exact retarget_target _ k
  · rfl

theorem isolate_target (m : Damper) (k : Nat) : (m.isolate k).target = 0 := by
  unfold Damper.isolate
  split <;> rfl

theorem stopLoop_target (s : State) : s.stopLoop.dcc.damper.target = 0 :=
  (push_target _ _ _ _ _).trans (Nat.zero_min _)

/-- R149: every channel off after the force. -/
theorem forceAllOff_allOff (s : State) : s.forceAllOff.dcc.AllOff := fun ch => by
  rw [channel_forceAllOff]
  exact ⟨rfl, rfl, rfl⟩

/-- R22, R25, R59, R101, R125, R149: a station that parks or is isolated, with its queue discarded before. -/
structure ClearedOff (s t : State) (img : Image) : Prop where
  cleared : s.Cleared t img
  stopped : t.zlp.Stopped
  off : t.dcc.AllOff
  target : t.dcc.damper.target = 0
  lnk : t.lnk = s.lnk
  mbr : t.mbr = s.mbr
  sup : t.sup = s.sup
  cfg : t.cfg = s.cfg
  svc : t.svc = s.svc
  clock : t.clock = s.clock
  pending : t.pending = s.pending
  raised : s.cjg.overdraw = .all false → s.zlp.hold = .none → t.raised = s.raised

theorem clearedOff {s : State} {img : Image} (image : s.cfg.image = some img)
    (outside : s.isMember = false) (empty : s.txq = .reset) :
    ClearedOff s s.clearShares.stopLoop.forceAllOff img := by
  have shares := clearShares_cleared image outside
  generalize s.clearShares = x at shares
  have rest := stopLoop_eq x
  have stopped := stopLoop_stopped x
  have target := stopLoop_target x
  have quiet (noHold : x.zlp.hold = .none) := stopLoop_raised noHold
  generalize x.stopLoop = y at rest stopped target quiet ⊢
  have off := forceAllOff_allOff y
  have damper := (forceAllOff_notice y).damper
  have dcc : y.forceAllOff = y.setDcc y.forceAllOff.dcc := rfl
  generalize y.forceAllOff.dcc = d at off damper dcc
  rw [dcc]
  constructor
  · refine ⟨?_, ?_, ?_, ?_⟩
    · rw [State.setDcc_stb, rest, State.setRaised_stb, State.setDcc_stb, State.setZlp_stb, shares.stb]
    · rw [State.setDcc_cjg, rest, State.setRaised_cjg, State.setDcc_cjg, State.setZlp_cjg, shares.cjg]
    · rw [State.setDcc_csr, rest, State.setRaised_csr, State.setDcc_csr, State.setZlp_csr, shares.csr]
    · rw [State.setDcc_txq, rest, State.setRaised_txq, State.setDcc_txq, State.setZlp_txq, shares.txq,
        empty]
  · exact stopped
  · exact off
  · rw [State.setDcc_dcc, damper, target]
  · rw [State.setDcc_lnk, rest, State.setRaised_lnk, State.setDcc_lnk, State.setZlp_lnk, shares.lnk]
  · rw [State.setDcc_mbr, rest, State.setRaised_mbr, State.setDcc_mbr, State.setZlp_mbr, shares.mbr]
  · rw [State.setDcc_sup, rest, State.setRaised_sup, State.setDcc_sup, State.setZlp_sup, shares.sup]
  · rw [State.setDcc_cfg, rest, State.setRaised_cfg, State.setDcc_cfg, State.setZlp_cfg, shares.cfg]
  · rw [State.setDcc_svc, rest, State.setRaised_svc, State.setDcc_svc, State.setZlp_svc, shares.svc]
  · rw [State.setDcc_clock, rest, State.setRaised_clock, State.setDcc_clock, State.setZlp_clock,
      shares.clock]
  · rw [State.setDcc_pending, rest, State.setRaised_pending, State.setDcc_pending,
      State.setZlp_pending, shares.pending]
  · intro clear noHold
    rw [State.setDcc_raised, quiet (shares.hold.trans noHold), shares.raised clear]

end Sys2Proof.Machine
end

section
/-! PROOF. An address clash isolates the station; a PARK frame parks it. -/

namespace Sys2Proof.Machine

theorem ownAddress_of_image {s : State} {img : Image} (image : s.cfg.image = some img) :
    s.ownAddress = img.address := by
  rw [State.ownAddress, image]
  rfl

/-- R88, R114: the state in which ISOLATED clears the shares. -/
def State.isolating (s : State) (kind : Nat) : State :=
  (((s.raise lnkOrigin .addressClash (some s.ownAddress) none (some kind)).setMbr { s.mbr with
    station := .isolated, settleTimer := none, censusTimer := none, selfSilence := .stopped
    wakeTimer := none, sampleTimer := none, parkDepth := none, freezeWake := false }).setLnk
    s.lnk.off.calm).setTxq .reset

theorem isolate_eq (s : State) (kind : Nat) :
    s.isolate kind = (s.isolating kind).clearShares.stopLoop.forceAllOff.setDcc
      { (s.isolating kind).clearShares.stopLoop.forceAllOff.dcc with
        damper := (s.isolating kind).clearShares.stopLoop.forceAllOff.dcc.damper.isolate
          (s.isolating kind).clearShares.stopLoop.forceAllOff.clock } := rfl

/-- R81, R88: a good frame of the own address. -/
theorem arrive_clashes {s : State} {kind : BitVec 3} {b : RxBody} {slots : Slots}
    (receives : s.lnk.state = .receiving) (counts : s.mbr.station.counts = true)
    (good : checkGood kind b = true) (clear : slots.fault = false)
    (own : b.source.toNat = s.ownAddress) (decoded : decodeFrame kind b ≠ none) :
    s.arrive kind b slots = (s.setLnk s.lnk.afterGood).isolate kind.toNat := by
  rw [arrive_of_good receives counts good, clear, if_neg Bool.false_ne_true,
    countMalformed_of_some _ decoded, arriveGood_of_counts (by exact counts)]
  exact if_pos own

/-- Settles O25. -/
theorem addressClashIsolates : Obligations.AddressClashIsolates := by
  intro s kind b slots img ready receives counts image good clear own decoded
  have address := ownAddress_of_image image
  have acts : effect (.addressClash kind b slots) s = _ :=
    (arrive_clashes receives counts good clear (own.trans address.symm) decoded).trans (isolate_eq _ _)
  refine ⟨_, exec_of_running ready.1 _, ?_⟩
  rw [acts]
  have off := clearedOff (s := (s.setLnk s.lnk.afterGood).isolating kind.toNat) image rfl rfl
  generalize ((s.setLnk s.lnk.afterGood).isolating kind.toNat).clearShares.stopLoop.forceAllOff = t
    at off
  refine ⟨?_, ?_, ?_, ?_, ?_, ?_, fun calm => ?_, ?_, ?_, ?_, ?_⟩
  · rw [State.flush_mbr, State.setDcc_mbr, off.mbr]
    rfl
  · rw [State.flush_lnk, State.setDcc_lnk, off.lnk]
    rfl
  · exact off.cleared
  · rw [State.flush_zlp, State.setDcc_zlp]
    exact off.stopped
  · rw [State.flush_dcc, State.setDcc_dcc]
    intro ch
    cases ch
    · exact off.off .blower
    · exact off.off .heatValve
    · exact off.off .coolValve
  · rw [State.flush_dcc, State.setDcc_dcc, isolate_target]
  · refine flush_svc_of_one (o := lnkOrigin) ?_ ?_
    · rw [State.setDcc_svc, off.svc]
      rfl
    · rw [State.setDcc_raised, off.raised calm.1 calm.2.2]
      show s.raised ++ [⟨lnkOrigin, s.event .addressClash (some s.ownAddress) none _⟩] = _
      rw [ready.2, address]
      rfl
  · rw [State.flush_sup, State.setDcc_sup, off.sup]
    rfl
  · rw [State.flush_cfg, State.setDcc_cfg, off.cfg]
    rfl
  · rw [State.flush_clock, State.setDcc_clock, off.clock]
    rfl
  · rw [State.flush_pending, State.setDcc_pending, off.pending]
    rfl

/-- R116: the state in which a park clears the shares. -/
def State.parking (s : State) (d : ParkDepth) (wakeAfter sender : Nat) : State :=
  (((s.raise mbrOrigin .parked (some sender) none (some d.code)).setMbr { s.mbr with
    station := d.station, settleTimer := none, censusTimer := none, selfSilence := .stopped
    wakeTimer := s.wakeTimerFor wakeAfter, sampleTimer := s.sampleTimerFor d
    parkDepth := some d, freezeWake := false }).setLnk (s.lnk.parked d)).setTxq .reset

theorem parkStation_eq (s : State) (d : ParkDepth) (wakeAfter sender : Nat) :
    s.parkStation d wakeAfter sender =
      (s.parking d wakeAfter sender).clearShares.stopLoop.forceAllOff := rfl

/-- R116: the end of a PARK, from a state that differs from `s` in link, queue, recency order and self-silence timer alone. -/
theorem parkStation_parked {s x : State} {img : Image} (quiet : s.raised = [])
    (image : s.cfg.image = some img) (d : ParkDepth) (wakeAfter sender : Nat)
    (rest : x = (((s.setStb { s.stb with order := x.stb.order }).setLnk x.lnk).setTxq x.txq).setMbr
      { s.mbr with selfSilence := x.mbr.selfSilence }) :
    s.Parked (x.parkStation d wakeAfter sender).flush img d wakeAfter ∧
      (x.parkStation d wakeAfter sender).flush.lnk = x.lnk.parked d ∧
      (s.Calm → (x.parkStation d wakeAfter sender).flush.svc =
        s.svc.post (s.event .parked (some sender) none (some d.code))) := by
  generalize x.stb.order = es, x.lnk = l, x.txq = q, x.mbr.selfSilence = silence at rest ⊢
  subst rest
  rw [parkStation_eq]
  have outside : State.isMember (State.parking ((((s.setStb { s.stb with order := es }).setLnk
      l).setTxq q).setMbr { s.mbr with selfSilence := silence }) d wakeAfter sender) = false := by
    cases d <;> rfl
  have off := clearedOff (by exact image) outside rfl
  generalize State.forceAllOff _ = t at off ⊢
  refine ⟨⟨?_, off.cleared, off.stopped, off.off, off.target, off.sup, off.cfg, off.clock,
    off.pending⟩, off.lnk, fun calm => ?_⟩
  · rw [State.flush_mbr, off.mbr]
    cases d <;> rfl
  · refine flush_svc_of_one (o := mbrOrigin) off.svc ((off.raised calm.1 calm.2.2).trans ?_)
    show s.raised ++ _ = _
    rw [quiet]
    rfl

/-- R82, R93, R96, R111: a non-void own completion. -/
theorem completeOwn_eq (s : State) (ack paced : Bool) :
    s.completeOwn ack paced = ((s.setLnk { s.lnk.endFrame with
        txVoid := 0, heard := if ack then .heard else .unheard
        counters := if s.mbr.station.counts then s.lnk.counters.bump .framesSent
                    else s.lnk.counters }).setMbr { s.mbr with
        selfSilence := if s.mbr.station.drives then .running (s.clock + Config.selfSilenceTime)
                       else s.mbr.selfSilence }).setTxq (s.txq.completed paced) := by
  rw [State.completeOwn, bump_eq]
  dsimp only
  have drives : ((s.endFrame.setLnk { s.endFrame.lnk with
      counters := if s.endFrame.mbr.station.counts then s.endFrame.lnk.counters.bump .framesSent
                  else s.endFrame.lnk.counters }).setLnk
      { (s.endFrame.setLnk { s.endFrame.lnk with
          counters := if s.endFrame.mbr.station.counts then s.endFrame.lnk.counters.bump .framesSent
                      else s.endFrame.lnk.counters }).lnk with
        txVoid := 0, heard := if ack then .heard else .unheard }).mbr.station.drives =
      s.mbr.station.drives := rfl
  rw [drives]
  split <;> rfl

@[simp] theorem completeOwn_station (s : State) (ack paced : Bool) :
    (s.completeOwn ack paced).mbr.station = s.mbr.station := by
  rw [completeOwn_eq]
  rfl

@[simp] theorem completeOwn_cfg (s : State) (ack paced : Bool) :
    (s.completeOwn ack paced).cfg = s.cfg := by
  rw [completeOwn_eq]
  rfl

theorem take_park (s : State) (sender : Nat) (accepted : Bool) (d : ParkDepth) (wakeAfter : Nat) :
    s.take sender accepted (.park d wakeAfter) =
      (s.seat sender (.park d wakeAfter)).parkStation d wakeAfter sender := rfl

/-- Settles O44. -/
theorem parkIsTaken : Obligations.ParkIsTaken := by
  refine fun s img d wakeAfter image => ⟨fun b slots heard => ?_, fun ack sends member => ?_⟩
  · have acts : effect (.parkArrival b slots) s =
        ((s.setLnk s.lnk.afterGood).seat b.source.toNat (.park d wakeAfter)).parkStation d wakeAfter
          b.source.toNat := (arrive_heard heard).trans (take_park _ _ _ _ _)
    have seated := seat_refreshed (s.setLnk s.lnk.afterGood) b.source.toNat (.park d wakeAfter) rfl
      fun _ => rfl
    obtain ⟨parked, lnk, svc⟩ := parkStation_parked heard.1.2 image d wakeAfter b.source.toNat
      (x := (s.setLnk s.lnk.afterGood).seat b.source.toNat (.park d wakeAfter)) (by rw [seated]; rfl)
    refine ⟨_, exec_of_running heard.1.1 _, ?_⟩
    rw [acts]
    refine ⟨parked, lnk.trans ?_, svc⟩
    rw [seated]
    rfl
  · obtain ⟨ready, transmits, wire⟩ := sends
    have own := completeOwn_eq s ack false
    have acts : effect (.ownParkCompletion ack) s =
        (s.completeOwn ack false).parkStation d wakeAfter img.address := by
      show s.parkDone ack = _
      rw [State.parkDone, sending_of_transmitting transmits, wire]
      dsimp only
      rw [if_pos (by rw [completeOwn_station, member]; rfl),
        ownAddress_of_image (by rw [completeOwn_cfg, image])]
    obtain ⟨parked, lnk, svc⟩ := parkStation_parked ready.2 image d wakeAfter img.address
      (x := s.completeOwn ack false) (by rw [own]; rfl)
    refine ⟨_, exec_of_running ready.1 _, ?_⟩
    rw [acts]
    refine ⟨parked, lnk.trans ?_, svc⟩
    rw [own, member]
    cases d <;> rfl

end Sys2Proof.Machine
end

section
/-! SUPPORT. The six tests of a judgement, each as the statement R29 to R32 makes. -/

namespace Sys2Proof.Machine

/-- R28: the first test that fails, the six taken as statements. -/
theorem judge_iff {s : State} {c : Claim} {one two three four five six : Prop}
    (h1 : s.failsUntracked = true ↔ one) (h2 : s.failsNoEntry c = true ↔ two)
    (h3 : s.failsMismatch c = true ↔ three) (h4 : s.failsOverdraw c = true ↔ four)
    (h5 : s.failsLimit c = true ↔ five) (h6 : s.failsFairness c = true ↔ six) :
    (s.judge c = some 1 ↔ one) ∧
    (s.judge c = some 2 ↔ ¬one ∧ two) ∧
    (s.judge c = some 3 ↔ ¬one ∧ ¬two ∧ three) ∧
    (s.judge c = some 4 ↔ ¬one ∧ ¬two ∧ ¬three ∧ four) ∧
    (s.judge c = some 5 ↔ ¬one ∧ ¬two ∧ ¬three ∧ ¬four ∧ five) ∧
    (s.judge c = some 6 ↔ ¬one ∧ ¬two ∧ ¬three ∧ ¬four ∧ ¬five ∧ six) ∧
    (s.judge c = none ↔ ¬one ∧ ¬two ∧ ¬three ∧ ¬four ∧ ¬five ∧ ¬six) := by
  rw [← h1, ← h2, ← h3, ← h4, ← h5, ← h6, State.judge]
  generalize s.failsUntracked = a, s.failsNoEntry c = b, s.failsMismatch c = c, s.failsOverdraw _ = d,
    s.failsLimit _ = e, s.failsFairness _ = f
  cases a
  case true => simp
  cases b
  case true => simp
  cases c
  case true => simp
  cases d
  case true => simp
  cases e
  case true => simp
  cases f <;> simp

/-- R7, R12: the table holds no entry for an address and can make none. -/
theorem canHold_eq_false (t : ShareTable) (address : Nat) :
    t.canHold address = false ↔ t.peer address = none ∧ 11 ≤ t.order.length ∧
      ∀ x ∈ t.order, ¬(x.pinned = false ∧ x.committed = .all 0) := by
  have place : t.hasPlace = false ↔ 11 ≤ t.order.length := by
    rw [ShareTable.hasPlace, decide_eq_false_iff_not]
    show ¬ (_ < 12) ↔ _
    omega
  rw [ShareTable.canHold, Bool.or_eq_false_iff, Bool.or_eq_false_iff, place,
    Option.isSome_eq_false_iff, Option.isSome_eq_false_iff, Option.isNone_iff_eq_none,
    Option.isNone_iff_eq_none, evictFrom_eq_none, and_assoc]
  simp only [Entry.evictable_iff]

/-- R29: NO_ENTRY. -/
theorem failsNoEntry_iff (s : State) (c : Claim) :
    s.failsNoEntry c = true ↔ c.sender ≠ s.ownAddress ∧ s.entryOf c.sender = none ∧
      11 ≤ s.stb.order.length ∧ ∀ x ∈ s.stb.order, ¬(x.pinned = false ∧ x.committed = .all 0) := by
  rw [State.failsNoEntry, Bool.and_eq_true, decide_eq_true_iff, Bool.not_eq_true', canHold_eq_false]
  refine and_congr_right fun other => ?_
  rw [State.entryOf, if_neg other]

/-- R30: MISMATCH. -/
theorem failsMismatch_iff (s : State) (c : Claim) :
    s.failsMismatch c = true ↔ ∃ e, (s.entryOf c.sender).filter (·.present) = some e ∧
      e.committed.get c.resource ≠ c.drawBefore := by
  unfold State.failsMismatch
  cases s.entryOf c.sender with
  | none => simp
  | some e => cases present : e.present <;> simp [Option.filter, present]

/-- R17: a sender that is counted already. -/
theorem countedEntry_eq (e : Option Entry) : countedEntry e = (e.filter (·.present)).isSome := by
  cases e with
  | none => rfl
  | some e => cases present : e.present <;> simp [countedEntry, Option.filter, present]

/-- R31: LIMIT. -/
theorem failsLimit_iff (s : State) (c : Claim) :
    s.failsLimit c = true ↔
      (if c.claimClass = .protection then (s.csr.capacity.get c.resource).value
        else (s.csr.capacity.get c.resource).value - (s.csr.capacity.get c.resource).value / 8) <
      s.stb.total c.resource +
        (if ((s.entryOf c.sender).filter (·.present)).isSome then 0 else c.drawBefore) + c.raise := by
  have limit (n : Nat) : classLimit n c.claimClass =
      if c.claimClass = .protection then n else n - n / 8 := by
    cases c.claimClass <;> rfl
  have projected : s.projectedTotal c = s.stb.total c.resource +
      (if ((s.entryOf c.sender).filter (·.present)).isSome then 0 else c.drawBefore) := by
    rw [State.projectedTotal, countedEntry_eq]
    split <;> rfl
  rw [State.failsLimit, decide_eq_true_iff, limit, projected]

/-- R32: the weight sum with the sender counted. -/
theorem judgedWeightSum_eq (s : State) (c : Claim) :
    s.judgedWeightSum c = s.stb.weightSum +
      (if ((s.entryOf c.sender).filter (·.present)).isSome then 0
        else ((s.entryOf c.sender).map Entry.weightOr1).getD 1) := by
  unfold State.judgedWeightSum
  cases s.entryOf c.sender with
  | none => rfl
  | some e => cases present : e.present <;> simp [Option.filter, present]

/-- R32: the sender's entitlement. -/
theorem entitlement_eq (s : State) (c : Claim) :
    s.entitlement c = max ((s.csr.capacity.get c.resource).value *
        ((s.entryOf c.sender).map Entry.weightOr1).getD 1 / s.judgedWeightSum c)
      (((s.entryOf c.sender).map (·.floorOr0 c.resource)).getD 0) := by
  unfold State.entitlement fairShare
  cases s.entryOf c.sender with
  | none => exact (Nat.max_zero _).symm
  | some e => rfl

/-- R32: FAIRNESS. -/
theorem failsFairness_iff (s : State) (c : Claim) :
    s.failsFairness c = true ↔ c.claimClass = .comfort ∧ s.entitlement c < c.drawBefore + c.raise ∧
      ∃ x ∈ s.stb.counted, x.address ≠ c.sender ∧
        x.committed.get c.resource < x.demandOr c.resource := by
  unfold State.failsFairness
  cases c.claimClass with
  | comfort => simp [State.othersShort]
  | recovery => exact ⟨nofun, nofun⟩
  | protection => exact ⟨nofun, nofun⟩

end Sys2Proof.Machine
end

section
/-! PROOF. The six tests in order, and the judgement of a REQUEST. -/

namespace Sys2Proof.Machine

/-- Settles O28. -/
theorem sixTestsInOrder : Obligations.SixTestsInOrder := by
  intro s c
  have fairness := failsFairness_iff s c
  rw [entitlement_eq, judgedWeightSum_eq] at fairness
  exact judge_iff Iff.rfl (failsNoEntry_iff s c) (failsMismatch_iff s c) Iff.rfl (failsLimit_iff s c)
    fairness

/-- R28: a judgement that passes. -/
theorem driveVerdict_of_pass {s : State} {c : Claim} (pass : s.judge c = none) :
    s.driveVerdict c = s.setLnk { s.lnk with vetoDriven := false } := by
  rw [State.driveVerdict, pass]

/-- R28, R89: a judgement that fails, in a state that counts. -/
theorem driveVerdict_of_fail {s : State} {c : Claim} {test : Nat} (fail : s.judge c = some test)
    (counts : s.mbr.station.counts = true) :
    s.driveVerdict c =
      (s.setCjg { s.cjg with lastVeto := some ⟨c.resource, c.sender, test⟩ }).setLnk
        { s.lnk with vetoDriven := true
                     vetoNote := ⟨s.clock + Config.bitPeriods 2,
                       s.lnk.counters.vetoesDriven, s.cjg.lastVeto⟩
                     counters := s.lnk.counters.bump .vetoesDriven } := by
  rw [State.driveVerdict, fail]
  exact bump_of_counts (by exact counts) _

/-- R26, R27: a heard REQUEST that is judged. -/
theorem judgeHeard_of_request {s : State} {b : RxBody} {r : Resource} {cl : ClaimClass}
    {before raise d : Nat} (receives : s.lnk.state = .receiving) (member : s.mbr.station = .member)
    (good : checkGood 4#3 b = true)
    (decoded : decodeFrame 4#3 b = some (.request r cl before raise d)) :
    s.judgeHeard b = s.driveVerdict ⟨b.source.toNat, r, cl, before, raise⟩ := by
  rw [State.judgeHeard, if_pos ⟨receives, (isMember_iff s).mpr member⟩, heardClaim, good, decoded]
  rfl

/-- R26, R28: the own REQUEST on the wire judged. -/
theorem judgeOwn_of_request {s : State} {r : Resource} {cl : ClaimClass} {before raise d : Nat}
    (sends : s.lnk.state = .transmitting) (member : s.mbr.station = .member)
    (wire : s.lnk.wire = some (.request r cl before raise d)) :
    s.judgeOwn = (s.driveVerdict ⟨s.ownAddress, r, cl, before, raise⟩).setVerdict r
      (verdictOf (s.judge ⟨s.ownAddress, r, cl, before, raise⟩)) := by
  rw [State.judgeOwn, if_pos ⟨sends, (isMember_iff s).mpr member⟩, wire]
  rfl

/-- Settles O29. -/
theorem requestIsJudged : Obligations.RequestIsJudged := by
  intro s r cl before raise d ready member
  have counts : s.mbr.station.counts = true := by rw [member]; rfl
  refine ⟨fun b receives good decoded => ⟨fun pass => ?_, fun test fail => ?_⟩,
    fun sends wire => ⟨fun pass => ?_, fun test fail => ?_⟩⟩
  · exact exec_becomes ready ((judgeHeard_of_request receives member good decoded).trans
      (driveVerdict_of_pass pass)) ready.2
  · exact exec_becomes ready ((judgeHeard_of_request receives member good decoded).trans
      (driveVerdict_of_fail fail counts)) ready.2
  · refine exec_becomes ready ((judgeOwn_of_request sends member wire).trans ?_) ready.2
    rw [driveVerdict_of_pass pass, pass]
    rfl
  · refine exec_becomes ready ((judgeOwn_of_request sends member wire).trans ?_) ready.2
    rw [driveVerdict_of_fail fail counts, fail]
    rfl

end Sys2Proof.Machine
end

section
/-! SUPPORT. What the arrival of a frame leaves, said of the state before its events are entered. -/

namespace Sys2Proof.Machine

/-- R40: the events of flags depend on the clock, the totals and the capacities alone. -/
theorem flagEvents_congr {s s' : State} {was now : Per Bool} {table table' : ShareTable}
    {records records' : Records} (clock : s'.clock = s.clock)
    (total : ∀ r, table'.total r = table.total r)
    (capacity : ∀ r, (records'.capacity.get r).value = (records.capacity.get r).value) :
    s'.flagEvents was now table' records' = s.flagEvents was now table records := by
  simp only [State.flagEvents, State.event, State.eventTime, clock, total, capacity]

theorem overdrawEvents_congr {s s' : State} (clock : s'.clock = s.clock)
    (flags : s'.cjg.overdraw = s.cjg.overdraw) (t : State) :
    s'.overdrawEvents t = s.overdrawEvents t := by
  rw [State.overdrawEvents, flags]
  exact flagEvents_congr clock (fun _ => rfl) fun _ => rfl

theorem reports_perm {s t : State} {es es' : List EventRecord} (reports : s.Reports t es)
    (perm : es.Perm es') : s.Reports t es' := by
  obtain ⟨rs, order, svc⟩ := reports
  exact ⟨rs, order.trans perm, svc⟩

theorem records_of_quiet {s : State} (quiet : s.raised = []) : s.records = [] := by
  rw [State.records, quiet]
  rfl

/-- R4, R6 to R13, R40: what seating a sender, an outcome on its entry and the notice do to a state. -/
structure Seated (x z : State) (address : Nat) (made : Entry) (kept f : Entry → Entry) : Prop where
  lnk : z.lnk = x.lnk
  csr : z.csr = x.csr
  same : x.SameStation z
  agrees : z.OverdrawAgrees
  age : z.stb.ageTimer = x.stb.ageTimer
  svc : z.svc = x.svc
  records : z.records = x.records ++ x.seatEvents address ++ x.overdrawEvents z
  recorded : x.Recorded z address made kept f

/-- R5 to R13, R19: the sender of a frame that may make an entry. -/
theorem seat_seated (x : State) {address : Nat} {fb : FrameBody} {made : Entry}
    {kept : Entry → Entry} (f : Entry → Entry) (makes : createdBy address fb = some made)
    (here : made.address = address) (keeps : ∀ e, e.overwrittenBy fb = kept e)
    (stays : ∀ e, (kept e).address = e.address) :
    Seated x (((x.seat address fb).mapPeer address f).tableChanged) address made kept f := by
  have order : OrderOnly x ((x.seat address fb).mapPeer address f) :=
    (seat_order x address fb).trans (mapPeer_order _ address f)
  have recorded := seat_recorded x address fb made kept f makes here keeps stays
  have events : ((x.seat address fb).mapPeer address f).records = x.records ++ x.seatEvents address :=
    seat_records x address fb made makes here
  generalize (x.seat address fb).mapPeer address f = y at order recorded events ⊢
  have table := tableChanged_table y
  have notice := table.notice
  have told := tableChanged_records y
  have agrees := tableChanged_agrees y
  have same := SameStation.trans order.same table.same
  have stb : y.tableChanged.stb = { y.stb with self := y.tableChanged.stb.self } := notice.stb
  have rest := order.rest
  generalize y.tableChanged = z at notice told agrees same stb ⊢
  constructor
  · rw [notice.lnk, rest]; rfl
  · rw [notice.csr, rest]; rfl
  · exact same
  · exact agrees
  · rw [stb, order.stb]
  · rw [notice.svc, rest]; rfl
  · rw [told, events]
    refine congrArg _ (overdrawEvents_congr ?_ ?_ z)
    · rw [rest]; rfl
    · rw [rest]; rfl
  · exact recorded_congr recorded (by rw [stb]) (by rw [stb]) (by rw [stb])

/-- R81: a frame of a peer that may make an entry has been taken, its events not entered yet. -/
structure Arrived (s t : State) (address : Nat) (made : Entry) (kept f : Entry → Entry) : Prop where
  lnk : t.lnk = s.lnk.afterGood
  csr : t.csr = s.csr
  same : s.SameStation t
  agrees : t.OverdrawAgrees
  age : t.stb.ageTimer = s.stb.ageTimer
  svc : t.svc = s.svc
  records : t.records = s.seatEvents address ++ s.overdrawEvents t
  recorded : s.Recorded t address made kept f

theorem seated_arrived {s : State} (quiet : s.raised = []) {address : Nat} {fb : FrameBody}
    {made : Entry} {kept : Entry → Entry} (f : Entry → Entry)
    (makes : createdBy address fb = some made) (here : made.address = address)
    (keeps : ∀ e, e.overwrittenBy fb = kept e) (stays : ∀ e, (kept e).address = e.address) :
    Arrived s ((((s.setLnk s.lnk.afterGood).seat address fb).mapPeer address f).tableChanged)
      address made kept f := by
  have seated := seat_seated (s.setLnk s.lnk.afterGood) f makes here keeps stays
  generalize ((((s.setLnk s.lnk.afterGood).seat address fb).mapPeer address f).tableChanged) = z
    at seated ⊢
  have records := seated.records
  rw [records_of_quiet (s := s.setLnk s.lnk.afterGood) quiet, List.nil_append] at records
  exact ⟨seated.lnk, seated.csr, seated.same, seated.agrees, seated.age, seated.svc, records,
    seated.recorded⟩

/-- R189: the same once the events are entered. -/
theorem Arrived.flush {s t : State} {address : Nat} {made : Entry} {kept f : Entry → Entry}
    (arrived : Arrived s t address made kept f) :
    t.flush.lnk = s.lnk.afterGood ∧ t.flush.csr = s.csr ∧ s.SameStation t.flush ∧
      t.flush.OverdrawAgrees ∧ t.flush.stb.ageTimer = s.stb.ageTimer ∧
      s.Reports t.flush (s.seatEvents address ++ s.overdrawEvents t.flush) ∧
      s.Recorded t.flush address made kept f :=
  ⟨arrived.lnk, arrived.csr, SameStation.trans arrived.same (flush_same t), arrived.agrees, arrived.age,
    reports_of arrived.svc arrived.records, arrived.recorded⟩

end Sys2Proof.Machine
end

section
/-! PROOF. REQUEST, RELEASE and JOIN of a peer. -/

namespace Sys2Proof.Machine

/-- R35, R36: the outcome on the sender's entry, by the slots. -/
theorem withRequest_eq (e : Entry) (r : Resource) (cl : ClaimClass) (raise d : Nat)
    (slotVeto driven : Bool) :
    e.withRequest r cl raise d (!(slotVeto || driven)) =
      { e with
        committed := if slotVeto = false ∧ driven = false
                     then e.committed.set r (min 1023 (e.committed.get r + raise))
                     else e.committed
        demand := e.demand.set r (some d), lastClass := e.lastClass.set r (some cl) } := by
  cases slotVeto <;> cases driven <;> rfl

theorem take_request (s : State) (sender : Nat) (accepted : Bool) (r : Resource) (cl : ClaimClass)
    (before raise d : Nat) :
    s.take sender accepted (.request r cl before raise d) =
      ((s.seat sender (.request r cl before raise d)).mapPeer sender
        fun e => e.withRequest r cl raise d accepted).tableChanged := rfl

theorem take_release (s : State) (sender : Nat) (accepted : Bool) (r : Resource) (newDraw : Nat) :
    s.take sender accepted (.release r newDraw) =
      ((s.seat sender (.release r newDraw)).mapPeer sender
        fun e => e.withRelease r newDraw).tableChanged := rfl

/-- Settles O30. -/
theorem claimsArrive : Obligations.ClaimsArrive := by
  refine ⟨fun s b slots r cl before raise d heard => ?_, fun s b slots r newDraw heard => ?_⟩
  · have acts : effect (.requestArrival b slots) s = _ :=
      (arrive_heard heard).trans (take_request _ _ _ r cl before raise d)
    have arrived := seated_arrived heard.1.2 (address := b.source.toNat)
      (fb := .request r cl before raise d) (kept := id)
      (fun e => e.withRequest r cl raise d (!(slots.veto || s.lnk.vetoDriven))) rfl rfl
      (fun _ => rfl) fun _ => rfl
    obtain ⟨lnk, csr, same, agrees, age, reports, recorded⟩ := arrived.flush
    refine ⟨_, exec_of_running heard.1.1 _, ?_⟩
    rw [acts]
    refine ⟨lnk, csr, same, agrees, age, reports, ?_⟩
    simpa only [withRequest_eq] using recorded
  · have acts : effect (.releaseArrival b slots) s = _ :=
      (arrive_heard heard).trans (take_release _ _ _ r newDraw)
    have arrived := seated_arrived heard.1.2 (address := b.source.toNat)
      (fb := .release r newDraw) (kept := id) (fun e => e.withRelease r newDraw) rfl rfl
      (fun _ => rfl) fun _ => rfl
    refine ⟨_, exec_of_running heard.1.1 _, ?_⟩
    rw [acts]
    exact arrived.flush

theorem take_join (s : State) (sender : Nat) (accepted : Bool) (weight : Nat) :
    s.take sender accepted (.join weight) =
      if (s.seat sender (.join weight)).tableChanged.isMember then
        (s.seat sender (.join weight)).tableChanged.ask .state
      else (s.seat sender (.join weight)).tableChanged := rfl

theorem ask_same (s : State) (i : Intent) : s.SameStation (s.ask i) := TableNotice.same (ask_caps s i).table

/-- R100: an intent asked for after the frame. -/
theorem Arrived.ask {s t : State} {address : Nat} {made : Entry} {kept f : Entry → Entry}
    (arrived : Arrived s t address made kept f) (i : Intent) :
    Arrived s (t.ask i) address made kept f where
  lnk := arrived.lnk
  csr := arrived.csr
  same := SameStation.trans arrived.same (ask_same t i)
  agrees := arrived.agrees
  age := arrived.age
  svc := arrived.svc
  records := arrived.records
  recorded := arrived.recorded

/-- Settles O32. -/
theorem joinArrives : Obligations.JoinArrives := by
  intro s b slots weight heard
  have acts : effect (.joinArrival b slots) s = _ :=
    (arrive_heard heard).trans (take_join _ _ _ weight)
  have arrived := seated_arrived heard.1.2 (address := b.source.toNat) (fb := .join weight)
    (kept := fun e => { Entry.bare e.address with weight := some weight, pinned := e.pinned }) id rfl
    rfl (fun _ => rfl) fun _ => rfl
  rw [mapPeer_id] at arrived
  refine ⟨_, exec_of_running heard.1.1 _, ?_⟩
  rw [acts]
  generalize ((s.setLnk s.lnk.afterGood).seat b.source.toNat (.join weight)).tableChanged = z at arrived
  obtain ⟨mbr, -, -, -, -, -, -, -, -, txq, -⟩ := arrived.same
  have member : z.isMember = s.isMember := by rw [State.isMember, mbr]; rfl
  split
  · obtain ⟨lnk, csr, same, agrees, age, reports, recorded⟩ := (arrived.ask .state).flush
    refine ⟨lnk, csr, same, agrees, age, reports, fun _ free => ?_, recorded⟩
    have free' : z.txq.onWire ≠ some .state := by rw [txq]; exact free
    rw [State.flush_txq, State.ask, State.setTxq_txq, TransmitQueue.ask_of_not_onWire free']
    rfl
  next outside =>
    obtain ⟨lnk, csr, same, agrees, age, reports, recorded⟩ := arrived.flush
    exact ⟨lnk, csr, same, agrees, age, reports,
      fun inside => absurd (member.trans inside) outside, recorded⟩

end Sys2Proof.Machine
end

section
/-! SUPPORT. The records a SUPPLY names, before the notice of their change. -/

namespace Sys2Proof.Machine

/-- R50: the named records take their values. -/
def State.supplied (s : State) (sender : Nat) (fallback : Bool) (values : Per (Option Nat)) : State :=
  ((s.supplyNamed sender fallback values .cool).supplyNamed sender fallback values
    .heat).supplyNamed sender fallback values .power

theorem applySupply_eq (s : State) (sender : Nat) (fallback : Bool) (values : Per (Option Nat)) :
    s.applySupply sender fallback values = (s.supplied sender fallback values).tableChanged := rfl

theorem supplied_recordsOnly (s : State) (sender : Nat) (fallback : Bool)
    (values : Per (Option Nat)) : RecordsOnly s (s.supplied sender fallback values) :=
  ((supplyNamed_records s sender fallback values .cool).trans
    (supplyNamed_records _ sender fallback values .heat)).trans
      (supplyNamed_records _ sender fallback values .power)

theorem supplyNamed_clock (s : State) (sender : Nat) (fallback : Bool) (values : Per (Option Nat))
    (r : Resource) : (s.supplyNamed sender fallback values r).clock = s.clock := by
  rw [(supplyNamed_records s sender fallback values r).rest]
  rfl

/-- R50: the other record of a resource stands while one is named. -/
theorem supplyNamed_other (s : State) (sender : Nat) (fallback : Bool) (values : Per (Option Nat))
    {r r' : Resource} (other : r' ≠ r) :
    (s.supplyNamed sender fallback values r).csr.capacity.get r' = s.csr.capacity.get r' := by
  rw [supplyNamed_csr]
  exact Per.get_set_other _ _ other

theorem supplyNamed_same (s : State) (sender : Nat) (fallback : Bool) (values : Per (Option Nat))
    (r : Resource) :
    (s.supplyNamed sender fallback values r).csr.capacity.get r =
      (s.csr.capacity.get r).supplied sender s.clock fallback (values.get r) := by
  rw [supplyNamed_csr]
  exact Per.get_set _ _ _

theorem supplied_capacity (s : State) (sender : Nat) (fallback : Bool) (values : Per (Option Nat))
    (r : Resource) :
    (s.supplied sender fallback values).csr.capacity.get r =
      (s.csr.capacity.get r).supplied sender s.clock fallback (values.get r) := by
  unfold State.supplied
  cases r
  · rw [supplyNamed_other _ _ _ _ (by decide), supplyNamed_other _ _ _ _ (by decide),
      supplyNamed_same]
  · rw [supplyNamed_other _ _ _ _ (by decide), supplyNamed_same,
      supplyNamed_other _ _ _ _ (by decide), supplyNamed_clock]
  · rw [supplyNamed_same, supplyNamed_other _ _ _ _ (by decide),
      supplyNamed_other _ _ _ _ (by decide), supplyNamed_clock, supplyNamed_clock]

theorem supplied_setpoint (s : State) (sender : Nat) (fallback : Bool) (values : Per (Option Nat)) :
    (s.supplied sender fallback values).csr.setpoint = s.csr.setpoint := by
  unfold State.supplied
  rw [supplyNamed_csr, supplyNamed_csr, supplyNamed_csr]

/-- R55: the event of one record that a SUPPLY makes LAPSED. -/
def State.lapseEvent (s : State) (sender : Nat) (fallback : Bool) (values : Per (Option Nat))
    (r : Resource) : List EventRecord :=
  match values.get r with
  | none => []
  | some v => if fallback = true ∧ (s.csr.capacity.get r).state ≠ .lapsed then
      [s.event .capacityLapse (some sender) (some r) (some v)] else []

/-- The events picked for each resource, resource by resource. -/
theorem filterMap_resources {α : Type} (f : Resource → Option α) :
    resources.filterMap f = (f .cool).toList ++ (f .heat).toList ++ (f .power).toList := by
  simp only [resources, List.filterMap_cons, List.filterMap_nil]
  cases f .cool <;> cases f .heat <;> cases f .power <;> rfl

theorem lapseEvents_eq (s : State) (sender : Nat) (fallback : Bool) (values : Per (Option Nat)) :
    s.lapseEvents sender fallback values = s.lapseEvent sender fallback values .cool ++
      s.lapseEvent sender fallback values .heat ++ s.lapseEvent sender fallback values .power := by
  have one (r : Resource) : (match values.get r with
      | none => none
      | some v =>
        if fallback = true ∧ (s.csr.capacity.get r).state ≠ .lapsed then
          some (s.event .capacityLapse (some sender) (some r) (some v))
        else none : Option EventRecord).toList = s.lapseEvent sender fallback values r := by
    unfold State.lapseEvent
    cases values.get r with
    | none => rfl
    | some v => dsimp only; split <;> rfl
  rw [← one, ← one, ← one]
  exact filterMap_resources _

theorem lapseEvent_congr {s s' : State} {r : Resource} (clock : s'.clock = s.clock)
    (record : s'.csr.capacity.get r = s.csr.capacity.get r) (sender : Nat) (fallback : Bool)
    (values : Per (Option Nat)) :
    s'.lapseEvent sender fallback values r = s.lapseEvent sender fallback values r := by
  simp only [State.lapseEvent, record, State.event, State.eventTime, clock]

theorem supplyNamed_event (s : State) (sender : Nat) (fallback : Bool) (values : Per (Option Nat))
    (r : Resource) :
    (s.supplyNamed sender fallback values r).records =
      s.records ++ s.lapseEvent sender fallback values r :=
  supplyNamed_reports s sender fallback values r

/-- R55: the events of an applied SUPPLY's records. -/
theorem supplied_records (s : State) (sender : Nat) (fallback : Bool) (values : Per (Option Nat)) :
    (s.supplied sender fallback values).records = s.records ++ s.lapseEvents sender fallback values := by
  unfold State.supplied
  rw [supplyNamed_event, supplyNamed_event, supplyNamed_event, lapseEvents_eq,
    lapseEvent_congr (s := s) (supplyNamed_clock _ _ _ _ _)
      (supplyNamed_other _ _ _ _ (by decide)) (r := .heat),
    lapseEvent_congr (s := s) ((supplyNamed_clock _ _ _ _ _).trans (supplyNamed_clock _ _ _ _ _))
      ((supplyNamed_other _ _ _ _ (by decide)).trans (supplyNamed_other _ _ _ _ (by decide)))
      (r := .power)]
  simp only [List.append_assoc]

end Sys2Proof.Machine
end

section
/-! PROOF. SUPPLY, SETPOINT and WAKE of a peer. -/

namespace Sys2Proof.Machine

theorem take_supply (s : State) (sender : Nat) (accepted fallback : Bool)
    (values : Per (Option Nat)) :
    s.take sender accepted (.supply fallback values) =
      ((s.seat sender (.supply fallback values)).supplied sender fallback values).tableChanged := rfl

/-- R6: the recency order after a frame that makes no entry. -/
def ShareTable.refreshedOrder (t : ShareTable) (address : Nat) : List Entry :=
  match t.peer address with
  | some e => if e.present then { e with age := 0 } :: dropAddress t.order address else t.order
  | none => t.order

theorem seat_of_no_entry (s : State) (address : Nat) {fb : FrameBody}
    (makes : createdBy address fb = none) (keeps : ∀ e : Entry, e.overwrittenBy fb = e) :
    s.seat address fb = s.setStb { s.stb with order := s.stb.refreshedOrder address } :=
  seat_refreshed s address fb makes keeps

/-- R6, R81: the sender of a heard frame that makes no entry. -/
theorem seat_afterGood (s : State) (address : Nat) {fb : FrameBody}
    (makes : createdBy address fb = none) (keeps : ∀ e : Entry, e.overwrittenBy fb = e) :
    (s.setLnk s.lnk.afterGood).seat address fb = (s.setLnk s.lnk.afterGood).setStb
      { s.stb with order := s.stb.refreshedOrder address } :=
  seat_of_no_entry _ address makes keeps

theorem refreshed_of_order {s t : State} {address : Nat}
    (stb : t.stb = { s.stb with self := t.stb.self, order := s.stb.refreshedOrder address }) :
    s.Refreshed t address := by
  refine ⟨?_, ?_⟩ <;> rw [stb]
  rfl

/-- Settles O33. -/
theorem supplyArrives : Obligations.SupplyArrives := by
  intro s b slots fallback values heard
  have acts : effect (.supplyArrival b slots) s = _ :=
    (arrive_heard heard).trans (take_supply _ _ _ fallback values)
  refine ⟨_, exec_of_running heard.1.1 _, ?_⟩
  rw [acts, seat_afterGood _ _ rfl fun _ => rfl]
  have only := supplied_recordsOnly ((s.setLnk s.lnk.afterGood).setStb
    { s.stb with order := s.stb.refreshedOrder b.source.toNat }) b.source.toNat fallback values
  have capacity := supplied_capacity ((s.setLnk s.lnk.afterGood).setStb
    { s.stb with order := s.stb.refreshedOrder b.source.toNat }) b.source.toNat fallback values
  have setpoint := supplied_setpoint ((s.setLnk s.lnk.afterGood).setStb
    { s.stb with order := s.stb.refreshedOrder b.source.toNat }) b.source.toNat fallback values
  have records := supplied_records ((s.setLnk s.lnk.afterGood).setStb
    { s.stb with order := s.stb.refreshedOrder b.source.toNat }) b.source.toNat fallback values
  generalize State.supplied _ _ _ _ = x at only capacity setpoint records ⊢
  have rest := only.rest
  have table := tableChanged_table x
  have notice := table.notice
  have told := tableChanged_records x
  have agrees := tableChanged_agrees x
  have named := RecordsOnly.same only
  have same : s.SameStation x.tableChanged := SameStation.trans (s := s) named table.same
  generalize x.tableChanged = z at notice told agrees same ⊢
  refine ⟨?_, SameStation.trans same (flush_same z), agrees, refreshed_of_order ?_, ?_, ?_,
    fun r => ?_⟩
  · rw [State.flush_lnk, notice.lnk, rest]; rfl
  · rw [State.flush_stb, notice.stb, rest]; rfl
  · rw [State.flush_csr, notice.csr, setpoint]; rfl
  · refine reports_of ?_ ?_
    · rw [notice.svc, rest]; rfl
    · rw [told, records, records_of_quiet (by exact heard.1.2), List.nil_append]
      refine congrArg _ (overdrawEvents_congr ?_ ?_ z)
      · rw [rest]; rfl
      · rw [rest]; rfl
  · rw [State.flush_csr, notice.csr, capacity]
    unfold CapacityRecord.supplied
    cases values.get r <;> rfl

/-- R62: the setpoint of an equal or newer epoch is adopted. -/
theorem offerSetpoint_of_newer {s : State} {p : SetpointRecord} (record : s.csr.setpoint = some p)
    {value : Nat} {mode : SetMode} {epoch origin : Nat}
    (newer : newerEpoch epoch p.epoch = true ∨ epoch = p.epoch) :
    s.offerSetpoint value mode epoch origin = s.adoptSetpoint value mode epoch origin := by
  rw [State.offerSetpoint, record]
  refine if_pos ?_
  rw [Bool.or_eq_true, decide_eq_true_iff]
  exact newer

theorem offerSetpoint_of_older {s : State} {p : SetpointRecord} (record : s.csr.setpoint = some p)
    {value : Nat} {mode : SetMode} {epoch origin : Nat}
    (older : ¬(newerEpoch epoch p.epoch = true ∨ epoch = p.epoch)) :
    s.offerSetpoint value mode epoch origin = s := by
  rw [State.offerSetpoint, record]
  refine if_neg ?_
  rw [Bool.or_eq_true, decide_eq_true_iff]
  exact older

/-- R62, R189: a setpoint adopted in a silent state, its event entered. -/
theorem adoptSetpoint_flush {s : State} (quiet : s.raised = []) (value : Nat) (mode : SetMode)
    (epoch origin : Nat) :
    (s.adoptSetpoint value mode epoch origin).flush =
      (s.setCsr { s.csr with setpoint := some ⟨value, mode, epoch, origin⟩ }).setSvc
        (s.svc.post (s.event .setpointAdopted (some origin) none (some value))) :=
  flush_of_added (s := s)
    (x := s.setCsr { s.csr with setpoint := some ⟨value, mode, epoch, origin⟩ }) quiet quiet _

theorem take_setpoint (s : State) (sender : Nat) (accepted : Bool) (value : Nat) (mode : SetMode)
    (epoch origin : Nat) :
    s.take sender accepted (.setpoint value mode epoch origin) =
      (s.seat sender (.setpoint value mode epoch origin)).offerSetpoint value mode epoch origin := rfl

theorem take_wake (s : State) (sender : Nat) (accepted : Bool) :
    s.take sender accepted .wake = s.seat sender .wake := rfl

/-- Settles O34. -/
theorem setpointAndWakeArrive : Obligations.SetpointAndWakeArrive := by
  refine fun s b slots => ⟨fun value mode epoch origin p heard record => ?_, fun heard => ?_⟩
  · have acts : effect (.setpointArrival b slots) s = _ :=
      (arrive_heard heard).trans (take_setpoint _ _ _ value mode epoch origin)
    rw [seat_afterGood _ _ rfl fun _ => rfl] at acts
    by_cases newer : newerEpoch epoch p.epoch = true ∨ epoch = p.epoch
    · rw [offerSetpoint_of_newer (by exact record) newer] at acts
      refine ⟨_, exec_of_running heard.1.1 _, ?_⟩
      rw [acts, adoptSetpoint_flush (by exact heard.1.2)]
      exact ⟨refreshed_of_order rfl, rfl, fun _ => rfl, fun older => absurd newer older⟩
    · rw [offerSetpoint_of_older (by exact record) newer] at acts
      refine ⟨_, exec_becomes heard.1 acts heard.1.2, ?_⟩
      exact ⟨refreshed_of_order rfl, rfl, fun newer' => absurd newer' newer, fun _ => rfl⟩
  · have acts : effect (.wakeArrival b slots) s = _ :=
      (arrive_heard heard).trans (take_wake _ _ _)
    rw [seat_afterGood _ _ rfl fun _ => rfl] at acts
    exact ⟨_, exec_becomes heard.1 acts heard.1.2, refreshed_of_order rfl, rfl, rfl⟩

end Sys2Proof.Machine
end

section
/-! SUPPORT. The capacity and the setpoint that a STATE carries. -/

namespace Sys2Proof.Machine

/-- R58: the records that an adoption leaves. -/
def State.adopted (s : State) (sender : Nat) (c : StateContent) : Per CapacityRecord :=
  Per.of fun r => (s.csr.capacity.get r).adopt sender (c.capacity.get r) (c.capacityState.get r)
    (s.clock + Config.supplyTime)

/-- R19, R58: what an adoption and its notice do to a state. -/
structure Adopted (x z : State) (records : Per CapacityRecord) : Prop where
  lnk : z.lnk = x.lnk
  csr : z.csr = { x.csr with capacity := records }
  same : x.SameStation z
  agrees : z.OverdrawAgrees
  total : ∀ r, z.stb.total r = x.stb.total r
  stb : z.stb = { x.stb with self := z.stb.self }
  svc : z.svc = x.svc
  told : z.records = x.records ++ x.overdrawEvents z

theorem adoptCapacity_adopted (x : State) (sender : Nat) (c : StateContent) :
    Adopted x (x.adoptCapacity sender c) (x.adopted sender c) := by
  have rest : x.adoptCapacity sender c =
      (x.setCsr { x.csr with capacity := x.adopted sender c }).tableChanged := rfl
  rw [rest]
  generalize x.adopted sender c = records
  have table := tableChanged_table (x.setCsr { x.csr with capacity := records })
  have notice := table.notice
  have told := tableChanged_records (x.setCsr { x.csr with capacity := records })
  have agrees := tableChanged_agrees (x.setCsr { x.csr with capacity := records })
  have total := table.total
  have same := table.same
  generalize (x.setCsr { x.csr with capacity := records }).tableChanged = z
    at notice told agrees total same ⊢
  exact ⟨notice.lnk, notice.csr, same, agrees, total, notice.stb, notice.svc, told⟩

/-- R58: one record at an adoption. -/
theorem adopt_eq (r : CapacityRecord) (sender value : Nat) (state : CapacityState) (deadline : Nat) :
    r.adopt sender value state deadline =
      if r.adoption = true then
        { value := value, source := sender, state := state
          timer := if state = .fresh then .running deadline else .stopped, adoption := false }
      else r := rfl

/-- R58: a STATE is adopted from when its sender was a member and some mark is set. -/
theorem adopts_iff (x : Records) (c : StateContent) :
    x.adopts c = true ↔ c.member = true ∧ ∃ r, (x.capacity.get r).adoption = true := by
  rw [Records.adopts, Bool.and_eq_true, Bool.or_eq_true, Bool.or_eq_true]
  refine and_congr_right fun _ => ⟨?_, ?_⟩
  · rintro ((cool | heat) | power)
    · exact ⟨.cool, cool⟩
    · exact ⟨.heat, heat⟩
    · exact ⟨.power, power⟩
  · rintro ⟨_ | _ | _, mark⟩
    · exact .inl (.inl mark)
    · exact .inl (.inr mark)
    · exact .inr mark

/-- R63: the setpoint record after a STATE. -/
def SetpointRecord.after (p : SetpointRecord) (c : StateContent) : SetpointRecord :=
  if newerEpoch c.setpointEpoch p.epoch then
    { value := c.setpointValue, mode := c.setMode, epoch := c.setpointEpoch
      origin := c.setpointOrigin }
  else p

/-- R63: the event of a STATE's setpoint. -/
def State.adoptionEvents (s : State) (c : StateContent) (p : SetpointRecord) : List EventRecord :=
  if newerEpoch c.setpointEpoch p.epoch then
    [s.event .setpointAdopted (some c.setpointOrigin) none (some c.setpointValue)]
  else []

/-- R63: a STATE's setpoint moves the setpoint record alone, with its event. -/
theorem offerStateSetpoint_eq {s : State} {p : SetpointRecord} (record : s.csr.setpoint = some p)
    (c : StateContent) :
    ∃ raised, s.offerStateSetpoint c =
        (s.setCsr { s.csr with setpoint := some (p.after c) }).setRaised raised ∧
      raised.map (·.record) = s.records ++ s.adoptionEvents c p := by
  rw [State.offerStateSetpoint, record]
  dsimp only
  unfold SetpointRecord.after State.adoptionEvents
  split
  · exact ⟨_, rfl, records_raise s setpointOrigin _ _ _ _⟩
  · refine ⟨s.raised, ?_, (List.append_nil _).symm⟩
    rw [← record]
    rfl

/-- R40: flags that agree are those of the totals and the capacities. -/
theorem overdraw_of_agrees {s : State} (agrees : s.OverdrawAgrees) :
    s.cjg.overdraw = Per.of fun r => decide ((s.csr.capacity.get r).value < s.stb.total r) := by
  have cool := agrees .cool
  have heat := agrees .heat
  have power := agrees .power
  generalize s.cjg.overdraw = flags at cool heat power
  cases flags
  rw [Per.of, ← cool, ← heat, ← power]
  rfl

/-- R40, R58: the events of two notices, the first of them over this table and these records. -/
theorem overdrawThrough_of_notices {s x y z : State} {table : ShareTable} {records : Records}
    (clock : x.clock = s.clock) (flags : x.cjg.overdraw = s.cjg.overdraw) (agrees : y.OverdrawAgrees)
    (clock' : y.clock = s.clock) (total : ∀ r, y.stb.total r = table.total r)
    (capacity : ∀ r, (y.csr.capacity.get r).value = (records.capacity.get r).value) :
    x.overdrawEvents y ++ y.overdrawEvents z = s.overdrawThrough z table records := by
  have mid : y.cjg.overdraw =
      Per.of fun r => decide ((records.capacity.get r).value < table.total r) := by
    rw [overdraw_of_agrees agrees]
    simp only [total, capacity]
  rw [State.overdrawThrough, State.overdrawEvents, State.overdrawEvents, flags, mid]
  exact congrArg₂ _ (flagEvents_congr clock total capacity)
    (flagEvents_congr clock' (fun _ => rfl) fun _ => rfl)

end Sys2Proof.Machine
end

section
/-! PROOF. The STATE of a peer: table and capacity in either order, then the setpoint. -/

namespace Sys2Proof.Machine

/-- R10, R58: a STATE taken by table and capacity records, its setpoint still to come. `crossed` are the events of the overdraw flags. -/
structure StateTaken (s z : State) (address : Nat) (c : StateContent) (crossed : List EventRecord) :
    Prop where
  lnk : z.lnk = s.lnk.afterGood
  same : s.SameStation z
  agrees : z.OverdrawAgrees
  age : z.stb.ageTimer = s.stb.ageTimer
  svc : z.svc = s.svc
  capacity : ∀ r, z.csr.capacity.get r =
    if c.member = true ∧ (s.csr.capacity.get r).adoption = true then
      { value := c.capacity.get r, source := address, state := c.capacityState.get r
        timer := if c.capacityState.get r = .fresh
                 then .running (s.clock + Config.supplyTime) else .stopped
        adoption := false }
    else s.csr.capacity.get r
  setpoint : z.csr.setpoint = s.csr.setpoint
  told : z.records.Perm (s.seatEvents address ++ crossed)
  recorded : s.Recorded z address ((Entry.bare address).withState c) (fun e => e.withState c) id

theorem seat_state_seated (x : State) (address : Nat) (c : StateContent) :
    Seated x (x.seat address (.state c)).tableChanged address ((Entry.bare address).withState c)
      (fun e => e.withState c) id := by
  have seated := seat_seated x (address := address) (fb := .state c)
    (kept := fun e => e.withState c) id rfl rfl (fun _ => rfl) fun _ => rfl
  rw [mapPeer_id] at seated
  exact seated

/-- R10: without an adoption the table alone takes it. -/
theorem stateTaken_of_plain {s : State} (quiet : s.raised = []) (address : Nat) {c : StateContent}
    (plain : s.csr.adopts c = false) :
    StateTaken s ((s.setLnk s.lnk.afterGood).seat address (.state c)).tableChanged address c
      (s.overdrawEvents ((s.setLnk s.lnk.afterGood).seat address (.state c)).tableChanged) := by
  have seated := seat_state_seated (s.setLnk s.lnk.afterGood) address c
  generalize ((s.setLnk s.lnk.afterGood).seat address (.state c)).tableChanged = z at seated ⊢
  have records := seated.records
  rw [records_of_quiet (s := s.setLnk s.lnk.afterGood) quiet, List.nil_append] at records
  refine ⟨seated.lnk, seated.same, seated.agrees, seated.age, seated.svc, fun r => ?_,
    by rw [seated.csr]; rfl, records ▸ .refl _, seated.recorded⟩
  rw [seated.csr, if_neg]
  · rfl
  · rintro ⟨member, mark⟩
    exact Bool.false_ne_true (plain.symm.trans ((adopts_iff s.csr c).mpr ⟨member, r, mark⟩))

/-- R58: the adopted record of a resource. -/
theorem adopted_get (s : State) (address : Nat) {c : StateContent} (member : c.member = true)
    (r : Resource) :
    (s.adopted address c).get r =
      if c.member = true ∧ (s.csr.capacity.get r).adoption = true then
        { value := c.capacity.get r, source := address, state := c.capacityState.get r
          timer := if c.capacityState.get r = .fresh
                   then .running (s.clock + Config.supplyTime) else .stopped
          adoption := false }
      else s.csr.capacity.get r := by
  have here : (s.adopted address c).get r = (s.csr.capacity.get r).adopt address (c.capacity.get r)
      (c.capacityState.get r) (s.clock + Config.supplyTime) := by cases r <;> rfl
  rw [here, adopt_eq]
  exact if_congr (by rw [member]; exact (and_iff_right rfl).symm) rfl rfl

/-- R58, log entry 5: the table first, then the capacity. -/
theorem stateTaken_of_tableFirst {s : State} (quiet : s.raised = []) (address : Nat)
    {c : StateContent} (member : c.member = true) (z : State)
    (ends : z = (((s.setLnk s.lnk.afterGood).drawn.seat address (.state c)).tableChanged).adoptCapacity
      address c) :
    StateTaken s z address c (s.overdrawThrough z z.stb s.csr) := by
  have seated := seat_state_seated (s.setLnk s.lnk.afterGood).drawn address c
  generalize ((s.setLnk s.lnk.afterGood).drawn.seat address (.state c)).tableChanged = y
    at seated ends
  have adopts := adoptCapacity_adopted y address c
  rw [← ends] at adopts
  have clock : y.clock = s.clock := seated.same.2.2.2.1
  have records : y.adopted address c = s.adopted address c := by
    rw [State.adopted, seated.csr, clock]
    rfl
  rw [records] at adopts
  have stb := adopts.stb
  refine ⟨adopts.lnk.trans seated.lnk, SameStation.trans (s := s) seated.same adopts.same,
    adopts.agrees, ?_, adopts.svc.trans seated.svc, fun r => ?_, ?_, ?_,
    recorded_congr (s := s) seated.recorded (by rw [stb]) (by rw [stb]) (by rw [stb])⟩
  · rw [stb]
    exact seated.age
  · rw [adopts.csr]
    exact adopted_get s address member r
  · rw [adopts.csr, seated.csr]
    rfl
  · rw [adopts.told, seated.records,
      records_of_quiet (s := (s.setLnk s.lnk.afterGood).drawn) quiet, List.nil_append,
      List.append_assoc, overdrawThrough_of_notices (s := s)
        (x := (s.setLnk s.lnk.afterGood).drawn) (table := z.stb) (records := s.csr) rfl rfl
        seated.agrees clock (fun r => (adopts.total r).symm) fun r => by rw [seated.csr]; rfl]
    exact .refl _

theorem seatEvents_congr {s x : State} (order : x.stb.order = s.stb.order)
    (untracked : x.stb.untracked = s.stb.untracked) (clock : x.clock = s.clock) (address : Nat) :
    x.seatEvents address = s.seatEvents address := by
  simp only [State.seatEvents, ShareTable.peer, order, untracked, State.event, State.eventTime, clock]

theorem recorded_base {s x z : State} {address : Nat} {made : Entry} {kept f : Entry → Entry}
    (recorded : x.Recorded z address made kept f) (order : x.stb.order = s.stb.order)
    (untracked : x.stb.untracked = s.stb.untracked)
    (timer : x.stb.untrackedTimer = s.stb.untrackedTimer) (clock : x.clock = s.clock) :
    s.Recorded z address made kept f := by
  unfold State.Recorded ShareTable.peer at *
  rw [order, untracked, timer, clock] at recorded
  exact recorded

/-- R58, log entry 5: the capacity first, then the table. -/
theorem stateTaken_of_capacityFirst {s : State} (quiet : s.raised = []) (address : Nat)
    {c : StateContent} (member : c.member = true) (z : State)
    (ends : z = (((s.setLnk s.lnk.afterGood).drawn.adoptCapacity address c).seat address
      (.state c)).tableChanged) :
    StateTaken s z address c (s.overdrawThrough z s.stb z.csr) := by
  have adopts := adoptCapacity_adopted (s.setLnk s.lnk.afterGood).drawn address c
  generalize (s.setLnk s.lnk.afterGood).drawn.adoptCapacity address c = y at adopts ends
  have seated := seat_state_seated y address c
  rw [← ends] at seated
  have clock : y.clock = s.clock := adopts.same.2.2.2.1
  have stb := adopts.stb
  have capacity (r : Resource) : (y.csr.capacity.get r).value = (z.csr.capacity.get r).value := by
    rw [seated.csr]
  refine ⟨seated.lnk.trans adopts.lnk, SameStation.trans (s := s) adopts.same seated.same,
    seated.agrees, ?_, seated.svc.trans adopts.svc, fun r => ?_, ?_, ?_,
    recorded_base seated.recorded (by rw [stb]; rfl) (by rw [stb]; rfl) (by rw [stb]; rfl) clock⟩
  · rw [seated.age, stb]
    rfl
  · rw [seated.csr, adopts.csr]
    exact adopted_get s address member r
  · rw [seated.csr, adopts.csr]
    rfl
  · rw [seated.records, adopts.told,
      records_of_quiet (s := (s.setLnk s.lnk.afterGood).drawn) quiet, List.nil_append,
      seatEvents_congr (s := s) (by rw [stb]; rfl) (by rw [stb]; rfl) clock,
      ← overdrawThrough_of_notices (s := s) (x := (s.setLnk s.lnk.afterGood).drawn) (table := s.stb)
        (records := z.csr) rfl rfl adopts.agrees clock adopts.total capacity, ← List.append_assoc]
    exact List.Perm.append_right _ List.perm_append_comm

/-- R40, R58: the events of the overdraw flags at the end of a STATE, in the order its notices came. -/
def State.Crossed (s t : State) (c : StateContent) (crossed : List EventRecord) : Prop :=
  crossed = s.overdrawEvents t ∨
    c.member = true ∧ (∃ r, (s.csr.capacity.get r).adoption = true) ∧
      (crossed = s.overdrawThrough t t.stb s.csr ∨ crossed = s.overdrawThrough t s.stb t.csr)

/-- A setpoint and the events raised are nothing to the overdraw flags. -/
theorem crossed_of_setpoint {s z : State} {c : StateContent} {crossed : List EventRecord}
    (before : s.Crossed z c crossed) (p : Option SetpointRecord) (raised : List Raised) :
    s.Crossed ((z.setCsr { z.csr with setpoint := p }).setRaised raised).flush c crossed := by
  rcases before with rfl | ⟨member, mark, rfl | rfl⟩
  · exact .inl rfl
  · exact .inr ⟨member, mark, .inl rfl⟩
  · exact .inr ⟨member, mark, .inr rfl⟩

/-- R81: the branches of a STATE's taking, by the free value (log entry 5). -/
theorem take_state (s : State) (address : Nat) (accepted : Bool) (c : StateContent) :
    s.take address accepted (.state c) =
      if s.csr.adopts c then
        if s.free % 2 = 0 then
          (((s.drawn.seat address (.state c)).tableChanged).adoptCapacity address c).offerStateSetpoint c
        else
          (((s.drawn.adoptCapacity address c).seat address (.state c)).tableChanged).offerStateSetpoint c
      else ((s.seat address (.state c)).tableChanged).offerStateSetpoint c := rfl

/-- R10, R58: table and capacity records take a STATE, in one of the three ways. -/
theorem take_state_taken {s : State} (quiet : s.raised = []) (address : Nat) (accepted : Bool)
    (c : StateContent) :
    ∃ z crossed, (s.setLnk s.lnk.afterGood).take address accepted (.state c) =
        z.offerStateSetpoint c ∧ StateTaken s z address c crossed ∧ s.Crossed z c crossed := by
  rw [take_state]
  split
  next adopts =>
    have pending := (adopts_iff s.csr c).mp adopts
    split
    · exact ⟨_, _, rfl, stateTaken_of_tableFirst quiet address pending.1 _ rfl,
        .inr ⟨pending.1, pending.2, .inl rfl⟩⟩
    · exact ⟨_, _, rfl, stateTaken_of_capacityFirst quiet address pending.1 _ rfl,
        .inr ⟨pending.1, pending.2, .inr rfl⟩⟩
  next plain =>
    exact ⟨_, _, rfl, stateTaken_of_plain quiet address (Bool.eq_false_iff.mpr plain), .inl rfl⟩

/-- Settles O31. -/
theorem stateArrives : Obligations.StateArrives := by
  intro s b slots c p heard record
  obtain ⟨z, crossed, takes, taken, crossing⟩ := take_state_taken heard.1.2 b.source.toNat
    (!(slots.veto || s.lnk.vetoDriven)) c
  have record' : z.csr.setpoint = some p := taken.setpoint.trans record
  obtain ⟨raised, offers, told⟩ := offerStateSetpoint_eq record' c
  have acts : effect (.stateArrival b slots) s = _ :=
    ((arrive_heard heard).trans takes).trans offers
  refine ⟨_, exec_of_running heard.1.1 _, ?_⟩
  rw [acts]
  have clock : z.clock = s.clock := taken.same.2.2.2.1
  have same : s.SameStation ((z.setCsr { z.csr with setpoint := some (p.after c) }).setRaised
      raised).flush :=
    SameStation.trans (s := s) taken.same (flush_same _)
  refine ⟨taken.lnk, same, taken.agrees, taken.age, taken.capacity, rfl,
    ⟨crossed, reports_perm (reports_of taken.svc told) ?_, crossed_of_setpoint crossing _ _⟩,
    taken.recorded⟩
  have events : z.adoptionEvents c p = s.adoptionEvents c p := by
    simp only [State.adoptionEvents, State.event, State.eventTime, clock]
  rw [events, List.append_assoc]
  refine (taken.told.append_right _).trans ?_
  rw [List.append_assoc]
  exact List.Perm.append_left _ List.perm_append_comm

end Sys2Proof.Machine
end

section
/-! SUPPORT. A key emptied and a replacement installed (R93, R96). -/

namespace Sys2Proof.Machine

theorem Intents.clear_get (q : Intents) (k : Key) : (q.clear k).get k = none := by
  cases k with
  | claim r => exact congrArg (Option.map (Intent.claim r)) (Per.get_set q.claim r none)
  | park | wake | supplyLapse | setpoint | state | join => rfl

theorem Intents.clear_get_other (q : Intents) {k k' : Key} (other : k' ≠ k) :
    (q.clear k).get k' = q.get k' := by
  cases k with
  | claim r =>
    cases k' with
    | claim r' =>
      have apart : r' ≠ r := fun same => other (congrArg Key.claim same)
      exact congrArg (Option.map (Intent.claim r')) (Per.get_set_other q.claim none apart)
    | park | wake | supplyLapse | setpoint | state | join => rfl
  | park | wake | supplyLapse | setpoint | state | join =>
    cases k' <;> first | rfl | exact absurd rfl other

/-- What a key holds is an intent of that key. -/
theorem Intents.key_of_get {q : Intents} {k : Key} {i : Intent} (held : q.get k = some i) :
    i.key = k := by
  cases k with
  | claim r =>
    obtain ⟨j, -, rfl⟩ := Option.map_eq_some_iff.mp held
    rfl
  | park =>
    obtain ⟨j, -, rfl⟩ := Option.map_eq_some_iff.mp held
    rfl
  | setpoint =>
    obtain ⟨j, -, rfl⟩ := Option.map_eq_some_iff.mp held
    rfl
  | wake | supplyLapse | state | join =>
    obtain ⟨-, same⟩ := Option.ite_none_right_eq_some.mp held
    cases same
    rfl

/-- R92: an intent asked for under an empty key. -/
theorem Intents.combine_get_of_empty {q : Intents} {i : Intent} (empty : q.get i.key = none) :
    (q.combine i).get i.key = some i := by
  cases i with
  | claim r j =>
    have free : q.claim.get r = none := Option.map_eq_none_iff.mp empty
    show ((q.claim.set r _).get r).map (Intent.claim r) = _
    rw [Per.get_set, free]
    rfl
  | park | wake | supplyLapse | setpoint | state | join => rfl

/-- R93: a replacement kept is the one that waited. -/
theorem keptReplacement_of_some {paced : Bool} {x : Option Intent} {i : Intent}
    (kept : keptReplacement paced x = some i) : x = some i := by
  unfold keptReplacement at kept
  split at kept
  · split at kept
    · cases kept
    · exact kept
  · exact kept

/-- R93: a replacement installed under its emptied key. -/
theorem Intents.install_get {q : Intents} {k : Key} {x : Option Intent}
    (keyed : ∀ i, x = some i → i.key = k) : ((q.clear k).install x).get k = x := by
  cases x with
  | none => exact q.clear_get k
  | some i =>
    obtain rfl := keyed i rfl
    exact combine_get_of_empty (q.clear_get i.key)

theorem Intents.install_get_other {q : Intents} {k k' : Key} {x : Option Intent}
    (keyed : ∀ i, x = some i → i.key = k) (other : k' ≠ k) : (q.install x).get k' = q.get k' := by
  cases x with
  | none => rfl
  | some i =>
    obtain rfl := keyed i rfl
    exact q.combine_get_other other

theorem TransmitQueue.completed_of_onWire {q : TransmitQueue} {k : Key} (wire : q.onWire = some k)
    (paced : Bool) :
    q.completed paced = { q with
      intents := (q.intents.clear k).install (keptReplacement paced (q.replacements.get k))
      replacements := q.replacements.clear k
      onWire := none } := by
  rw [TransmitQueue.completed, wire]

theorem TransmitQueue.returned_of_onWire {q : TransmitQueue} {k : Key} (wire : q.onWire = some k) :
    q.returned = { q with
      intents := q.intents.install (q.replacements.get k)
      replacements := q.replacements.clear k
      onWire := none } := by
  rw [TransmitQueue.returned, wire]

/-- R93, R98: a completion moves nothing of the pacing. -/
theorem TransmitQueue.completed_rest (q : TransmitQueue) (paced : Bool) :
    q.completed paced = { q with intents := (q.completed paced).intents
                                 replacements := (q.completed paced).replacements
                                 onWire := (q.completed paced).onWire } := by
  unfold TransmitQueue.completed
  split <;> rfl

end Sys2Proof.Machine
end

section
/-! PROOF. What the outcome of the frame on the wire makes of the queue. -/

namespace Sys2Proof.Machine

/-- Settles O36. -/
theorem replacementsTakeEffect : Obligations.ReplacementsTakeEffect := by
  intro q k wire
  have held (i : Intent) (waits : q.replacements.get k = some i) : i.key = k := Intents.key_of_get waits
  have kept (paced : Bool) (i : Intent) (keeps : keptReplacement paced (q.replacements.get k) = some i) :
      i.key = k := held i (keptReplacement_of_some keeps)
  refine ⟨fun paced => ?_, ?_, fun none => ?_, fun i waits => ?_, fun k' other => ?_⟩
  · rw [TransmitQueue.completed_of_onWire wire]
    refine ⟨Intents.clear_get _ _, Intents.install_get (kept paced), fun k' other => ⟨?_, ?_⟩⟩
    · exact (Intents.install_get_other (kept paced) other).trans (Intents.clear_get_other _ other)
    · exact Intents.clear_get_other _ other
  · rw [TransmitQueue.returned_of_onWire wire]
    exact Intents.clear_get _ _
  · rw [TransmitQueue.returned_of_onWire wire, none]
    rfl
  · rw [TransmitQueue.returned_of_onWire wire, waits]
    rfl
  · rw [TransmitQueue.returned_of_onWire wire]
    exact ⟨Intents.install_get_other held other, Intents.clear_get_other _ other⟩

end Sys2Proof.Machine
end

section
/-! SUPPORT. The notice of a table change, flag by flag: where none begins it moves flags alone, and a begin moves its own resource's target alone. -/

namespace Sys2Proof.Machine

/-- R40: the flag of a resource does not begin at this table and these records. -/
def State.NoBegin (s : State) (r : Resource) : Prop :=
  (s.csr.capacity.get r).value < s.stb.total r → s.cjg.overdraw.get r = true

theorem evalOverdraw_flagsOnly_of_noBegin {s : State} {r : Resource} (noBegin : s.NoBegin r) :
    FlagsOnly s (s.evalOverdraw r) := by
  unfold State.evalOverdraw
  dsimp only
  split
  next above =>
    rw [if_pos (noBegin above)]
    rfl
  next => split <;> rfl

theorem evalOverdraw_noBegin {s : State} {r r' : Resource} (other : r' ≠ r) :
    (s.evalOverdraw r).NoBegin r' ↔ s.NoBegin r' := by
  have table := evalOverdraw_table s r
  rw [State.NoBegin, State.NoBegin, table.total, table.notice.csr, evalOverdraw_overdraw,
    Per.get_set_other _ _ other]

/-- R19, R41: where no flag begins, the notice of a table change moves the flags alone. -/
theorem tableChanged_flagsOnly_of_noBegin {s : State} (noBegin : ∀ r, s.NoBegin r) :
    FlagsOnly s s.tableChanged := by
  have heat := (evalOverdraw_noBegin (s := s) (r := .cool) (r' := .heat) (by decide)).mpr (noBegin _)
  have power := (evalOverdraw_noBegin (s := s.evalOverdraw .cool) (r := .heat) (r' := .power)
    (by decide)).mpr ((evalOverdraw_noBegin (by decide)).mpr (noBegin _))
  exact ((evalOverdraw_flagsOnly_of_noBegin (noBegin _)).trans
    (evalOverdraw_flagsOnly_of_noBegin heat)).trans (evalOverdraw_flagsOnly_of_noBegin power)

theorem offerTarget_target (s : State) {r r' : Resource} (t : Nat) (other : r' ≠ r) :
    (s.offerTarget r t).cjg.releaseTarget.get r' = s.cjg.releaseTarget.get r' := by
  unfold State.offerTarget
  split
  · show ((s.setTarget r (some t)).recomputeCaps).cjg.releaseTarget.get r' = _
    rw [(recomputeCaps_caps _).cjg]
    exact Per.get_set_other _ _ other
  · rfl

theorem computeCut_target (s : State) {r r' : Resource} (other : r' ≠ r) :
    (s.computeCut r).cjg.releaseTarget.get r' = s.cjg.releaseTarget.get r' := by
  unfold State.computeCut
  split
  · rfl
  · dsimp only
    split
    · exact offerTarget_target s _ other
    · rfl

/-- R42, R43: a begin touches its own resource's target alone. -/
theorem evalOverdraw_target_other (s : State) {r r' : Resource} (other : r' ≠ r) :
    (s.evalOverdraw r).cjg.releaseTarget.get r' = s.cjg.releaseTarget.get r' := by
  unfold State.evalOverdraw
  dsimp only
  split
  · split
    · rfl
    · split
      · exact computeCut_target _ other
      · rfl
  · split <;> rfl

theorem FlagsOnly.target {s t : State} (only : FlagsOnly s t) :
    t.cjg.releaseTarget = s.cjg.releaseTarget := by
  rw [show t = _ from only, State.setRaised_cjg, State.setCjg_cjg]

/-- R42, R43: a target stands where the flag of its resource does not begin. -/
theorem tableChanged_target {s : State} {r : Resource} (noBegin : s.NoBegin r) :
    s.tableChanged.cjg.releaseTarget.get r = s.cjg.releaseTarget.get r := by
  have own (x : State) (stands : x.NoBegin r) :
      (x.evalOverdraw r).cjg.releaseTarget.get r = x.cjg.releaseTarget.get r := by
    rw [(evalOverdraw_flagsOnly_of_noBegin stands).target]
  unfold State.tableChanged
  cases r
  · rw [evalOverdraw_target_other _ (by decide), evalOverdraw_target_other _ (by decide), own s noBegin]
  · rw [evalOverdraw_target_other _ (by decide), own _ ((evalOverdraw_noBegin (by decide)).mpr noBegin),
      evalOverdraw_target_other _ (by decide)]
  · rw [own _ ((evalOverdraw_noBegin (by decide)).mpr ((evalOverdraw_noBegin (by decide)).mpr noBegin)),
      evalOverdraw_target_other _ (by decide), evalOverdraw_target_other _ (by decide)]

/-- R40: after the notice of a table change every flag says whether its total exceeds its capacity. -/
theorem tableChanged_overdraw (s : State) (r : Resource) :
    s.tableChanged.cjg.overdraw.get r = decide ((s.csr.capacity.get r).value < s.stb.total r) := by
  have table := tableChanged_table s
  rw [tableChanged_agrees s r, table.total, table.notice.csr]

/-- R40: a flag that is as before or clear after the notice did not begin. -/
theorem noBegin_of_overdraw {s : State} {r : Resource}
    (stands : s.tableChanged.cjg.overdraw.get r = s.cjg.overdraw.get r ∨
      s.tableChanged.cjg.overdraw.get r = false) : s.NoBegin r := by
  intro above
  rw [tableChanged_overdraw, decide_eq_true above] at stands
  rcases stands with same | clear
  · exact same.symm
  · cases clear

end Sys2Proof.Machine
end

section
/-! PROOF. The timers of table, records and queue, and the events at the mask and the FIFO. -/

namespace Sys2Proof.Machine

/-- R189: one event raised is entered. -/
theorem flush_raise {x : State} (quiet : x.raised = []) (o : Origin) (k : EventKind)
    (p : Option Nat) (r : Option Resource) (v : Option Nat) :
    (x.raise o k p r v).flush = x.setSvc (x.svc.post (x.event k p r v)) :=
  flush_of_added quiet quiet _

/-- R189: a command that raises one event enters it. -/
theorem exec_reports {s x : State} (ready : s.Ready) {c : Instr} {o : Origin} {k : EventKind}
    {p : Option Nat} {r : Option Resource} {v : Option Nat} (acts : effect c s = x.raise o k p r v)
    (quiet : x.raised = []) : exec c s = .next (x.setSvc (x.svc.post (x.event k p r v))) := by
  rw [exec_of_running ready.1, acts, flush_raise quiet]

/-- R53: the running timer of a record expires. -/
theorem supplyExpired_of_running {s : State} {r : Resource} {deadline : Nat}
    (runs : (s.csr.capacity.get r).timer = .running deadline) :
    s.supplyExpired r = (s.setCsr { s.csr with
        capacity := s.csr.capacity.set r { s.csr.capacity.get r with timer := .expired } }).setTxq
      (if s.mbr.station = .member ∧ (s.csr.capacity.get r).state = .fresh
       then s.txq.ask .supplyLapse else s.txq) := by
  rw [State.supplyExpired, runs]
  dsimp only
  by_cases asks : s.mbr.station = .member ∧ (s.csr.capacity.get r).state = .fresh
  · rw [if_pos asks, if_pos]
    · rfl
    · rw [Bool.and_eq_true, decide_eq_true_iff]
      exact ⟨(isMember_iff s).mpr asks.1, asks.2⟩
  · rw [if_neg asks, if_neg]
    · rfl
    · rw [Bool.and_eq_true, decide_eq_true_iff]
      exact fun both => asks ⟨(isMember_iff s).mp both.1, both.2⟩

/-- R100: the STATE timer expires with no STATE on the wire. -/
theorem stateExpired_of_running {s : State} (runs : s.txq.stateTimer.isSome = true)
    (free : s.txq.onWire ≠ some .state) :
    s.stateExpired = s.setTxq { s.txq with
      stateTimer := none
      intents := { s.txq.intents with
        state := s.txq.intents.state || s.mbr.station.drives } } := by
  obtain ⟨t, timer⟩ := Option.isSome_iff_exists.mp runs
  rw [State.stateExpired, timer]
  dsimp only [State.setTxq_mbr, State.setTxq_txq]
  simp only [ne_eq, free, not_false_eq_true, decide_true, Bool.and_true]
  cases drives : s.mbr.station.drives with
  | false =>
    rw [if_neg Bool.false_ne_true, Bool.or_false]
  | true =>
    rw [if_pos rfl, Bool.or_true]
    exact congrArg (State.setTxq _) (TransmitQueue.ask_of_not_onWire
      (q := { s.txq with stateTimer := none }) (i := .state) free)

/-- Settles O41. -/
theorem recordTimersExpire : Obligations.RecordTimersExpire := by
  intro s ready
  refine ⟨fun runs => ?_, fun r deadline runs => ?_, fun runs free => ?_, fun r => ?_, fun r => ?_⟩
  · obtain ⟨t, timer⟩ := Option.isSome_iff_exists.mp runs
    refine exec_becomes ready (c := .untrackedTimerExpiry) ?_ ready.2
    show s.untrackedEnd = _
    rw [State.untrackedEnd, timer]
  · exact exec_becomes ready (c := .supplyTimerExpiry r) (supplyExpired_of_running runs) ready.2
  · exact exec_becomes ready (c := .stateTimerExpiry) (stateExpired_of_running runs free) ready.2
  · exact exec_becomes ready (c := .refusalHoldOffExpiry r) rfl ready.2
  · exact exec_becomes ready (c := .spacingExpiry r) rfl ready.2

/-- Settles O56: by the mask and by the room in the FIFO. -/
theorem eventsAreCollected : Obligations.EventsAreCollected := by
  refine ⟨fun v e => ⟨fun masked => ?_, fun open' room => ?_, fun open' full => ?_⟩, fun s => ?_⟩
  · rw [ServiceLine.post, if_neg (Bool.eq_false_iff.mp masked)]
  · rw [ServiceLine.post, if_pos open', if_pos (show _ < Config.fifoDepth from room)]
  · rw [ServiceLine.post, if_pos open', if_neg (show ¬_ < Config.fifoDepth from Nat.not_lt.mpr full)]
  · show (!s.held && decide (s.svc.fifo ≠ [])) = _
    cases s.svc.fifo <;> rfl

end Sys2Proof.Machine
end

section
/-! PROOF. The duty channels: a cap pushed, a period's end, an on-time passed, the cool valve's rest. -/

namespace Sys2Proof.Machine

/-- Settles O52: the channel after the cap, and that it leaves the others. -/
theorem capIsPushed : Obligations.CapIsPushed := by
  intro d ch cap clock
  have duties := channel_pushCap_duties d ch cap clock
  have pushed := channel_pushCap d ch cap true clock
  have others (other : DutyChannel) (apart : other ≠ ch) :=
    channel_pushCap_other d cap true clock apart
  dsimp only at pushed ⊢
  rw [if_neg Bool.noConfusion] at pushed
  refine ⟨duties.1, ?_, fun closed => ?_, fun below => ?_, fun opened within => ?_, others⟩
  · rw [pushed]
    split
    · rfl
    · split <;> rfl
  · rw [pushed, if_pos closed]
    exact ⟨rfl, rfl, rfl⟩
  · refine ⟨duties.2.2.trans (Nat.min_eq_right below.le), duties.2.1, fun opened => ?_⟩
    rw [pushed, if_neg opened.ne', if_pos below]
  · rw [pushed, if_neg opened.ne', if_neg (Nat.not_lt.mpr within)]
    exact ⟨rfl, rfl, rfl⟩

/-- R146, R151: the start of a period: the output off, as it is, or on. The cool valve's stays while it is on or rests. -/
theorem beginPeriod_cases (d : Drives) (ch : DutyChannel) (k : Nat) :
    ∃ x, d.beginPeriod ch k = { x with deferred := (d.beginPeriod ch k).deferred } ∧
      ((d.channel ch).active = 0 ∧ x = d.switchOff ch k ∨
        (d.channel ch).active ≠ 0 ∧
          (ch = .coolValve ∧ ((d.channel ch).on = true ∨ d.restTimer.isSome = true) ∧ x = d ∨
            (ch = .coolValve → d.restTimer = none) ∧
              x = d.setChannel ch { d.channel ch with on := true })) := by
  by_cases idle : (d.channel ch).active = 0
  · refine ⟨_, ?_, .inl ⟨idle, rfl⟩⟩
    cases ch <;> unfold Drives.beginPeriod <;> dsimp only <;> rw [if_pos idle]
  · cases ch with
    | blower =>
      refine ⟨_, ?_, .inr ⟨idle, .inr ⟨nofun, rfl⟩⟩⟩
      unfold Drives.beginPeriod
      dsimp only
      rw [if_neg idle]
    | heatValve =>
      refine ⟨_, ?_, .inr ⟨idle, .inr ⟨nofun, rfl⟩⟩⟩
      unfold Drives.beginPeriod
      dsimp only
      rw [if_neg idle]
    | coolValve =>
      by_cases on : (d.channel .coolValve).on = true
      · refine ⟨_, ?_, .inr ⟨idle, .inl ⟨rfl, .inl on, rfl⟩⟩⟩
        unfold Drives.beginPeriod
        dsimp only
        rw [if_neg idle, if_pos on]
      · by_cases rests : d.restTimer.isSome = true
        · refine ⟨_, ?_, .inr ⟨idle, .inl ⟨rfl, .inr rests, rfl⟩⟩⟩
          unfold Drives.beginPeriod
          dsimp only
          rw [if_neg idle, if_neg on, if_pos rests]
        · refine ⟨_, ?_, .inr ⟨idle, .inr ⟨fun _ => by simpa using rests, rfl⟩⟩⟩
          unfold Drives.beginPeriod
          dsimp only
          rw [if_neg idle, if_neg on, if_neg rests]

/-- The mark of a deferred on phase is no part of a channel. -/
theorem channel_setDeferred (d : Drives) (b : Bool) (ch : DutyChannel) :
    ({ d with deferred := b } : Drives).channel ch = d.channel ch := by cases ch <;> rfl

theorem channel_beginPeriod (d : Drives) (ch : DutyChannel) (k : Nat) :
    (d.beginPeriod ch k).channel ch = { d.channel ch with
      on := if (d.channel ch).active = 0 then false
            else if ch = .coolValve ∧ d.restTimer.isSome = true then (d.channel ch).on
            else true } := by
  obtain ⟨x, begins, ⟨idle, rfl⟩ | ⟨duty, ⟨rfl, stays, rfl⟩ | ⟨free, rfl⟩⟩⟩ := beginPeriod_cases d ch k
  · rw [begins, channel_setDeferred, channel_switchOff, if_pos idle]
  · rw [begins, channel_setDeferred, if_neg duty]
    rcases stays with on | rests
    · rw [on, ite_self, ← on]
    · rw [if_pos ⟨rfl, rests⟩]
  · have none : ¬(ch = .coolValve ∧ d.restTimer.isSome = true) := fun ⟨cool, rests⟩ => by
      rw [free cool] at rests
      cases rests
    rw [begins, channel_setDeferred, channel_setChannel, if_neg duty, if_neg none]

theorem channel_beginPeriod_other (d : Drives) {ch other : DutyChannel} (k : Nat)
    (apart : other ≠ ch) : (d.beginPeriod ch k).channel other = d.channel other := by
  obtain ⟨x, begins, ⟨-, rfl⟩ | ⟨-, ⟨-, -, rfl⟩ | ⟨-, rfl⟩⟩⟩ := beginPeriod_cases d ch k <;>
    rw [begins, channel_setDeferred]
  · exact channel_switchOff_other d k apart
  · exact channel_setChannel_other d _ apart

theorem beginPeriod_damper (d : Drives) (ch : DutyChannel) (k : Nat) :
    (d.beginPeriod ch k).damper = d.damper := by
  obtain ⟨x, begins, ⟨-, rfl⟩ | ⟨-, ⟨-, -, rfl⟩ | ⟨-, rfl⟩⟩⟩ := beginPeriod_cases d ch k <;>
    rw [begins]
  · exact switchOff_damper d ch k
  · exact setChannel_damper d ch _

theorem setChannel_restTimer (d : Drives) (ch : DutyChannel) (c : Channel) :
    (d.setChannel ch c).restTimer = d.restTimer := by cases ch <;> rfl

/-- R146, R147: the end of a period, channel by channel. -/
theorem channel_periodEnd {d : Drives} {ch : DutyChannel} {b : Nat}
    (started : (d.channel ch).start = some b) (k : Nat) :
    (d.periodEnd ch k).channel ch = { d.channel ch with
      active := max (d.channel ch).active (d.channel ch).buffered
      start := some k
      on := if max (d.channel ch).active (d.channel ch).buffered = 0 then false
            else if ch = .coolValve ∧ d.restTimer.isSome = true then (d.channel ch).on
            else true } := by
  rw [periodEnd_of_started started, channel_beginPeriod, channel_setChannel, setChannel_restTimer]

theorem channel_periodEnd_other {d : Drives} {ch other : DutyChannel} {b : Nat}
    (started : (d.channel ch).start = some b) (k : Nat) (apart : other ≠ ch) :
    (d.periodEnd ch k).channel other = d.channel other := by
  rw [periodEnd_of_started started, channel_beginPeriod_other _ k apart,
    channel_setChannel_other d _ apart]

/-- R160, R162: the watch after a change that leaves the blower's own record. -/
theorem rewatch_fan {d d' : Drives} (same : d'.fan = d.fan) (k : Nat) :
    (d'.rewatch d.watched k).fan =
      if d.fan.condition = .running ∧ 200 ≤ d'.blower.active then
        if 200 ≤ d.blower.active then d.fan
        else { d.fan with stallTimer := some (k + Config.stallTime)
                          goodRunTimer := some (k + Config.goodRunTime) }
      else { d.fan with stallTimer := none, goodRunTimer := none } := by
  have watched : d'.watched = true ↔ d.fan.condition = .running ∧ 200 ≤ d'.blower.active := by
    rw [Drives.watched, same, Bool.and_eq_true, decide_eq_true_iff, decide_eq_true_iff]
  unfold Drives.rewatch
  by_cases now : d.fan.condition = .running ∧ 200 ≤ d'.blower.active
  · have before : d.watched = true ↔ 200 ≤ d.blower.active := by
      rw [Drives.watched, decide_eq_true now.1, Bool.true_and, decide_eq_true_iff]
    rw [if_pos (watched.mpr now), if_pos now]
    by_cases was : 200 ≤ d.blower.active
    · rw [if_pos (before.mpr was), if_pos was, same]
    · rw [if_neg (mt before.mp was), if_neg was, same]
  · rw [if_neg (mt watched.mp now), if_neg now, same]

theorem rewatch_restTimer (d : Drives) (was : Bool) (k : Nat) :
    (d.rewatch was k).restTimer = d.restTimer := by
  unfold Drives.rewatch
  split
  · split <;> rfl
  · rfl

theorem rewatch_deferred (d : Drives) (was : Bool) (k : Nat) :
    (d.rewatch was k).deferred = d.deferred := by
  unfold Drives.rewatch
  split
  · split <;> rfl
  · rfl

/-- R151: the output off, and for the cool valve its rest. -/
theorem onTimePassed_of_on {d : Drives} {ch : DutyChannel} (on : (d.channel ch).on = true)
    (short : (d.channel ch).active < 1000) (k : Nat) : d.onTimePassed ch k = d.switchOff ch k :=
  if_pos ⟨on, short⟩

theorem switchOff_restTimer {d : Drives} (on : d.cool.on = true) (k : Nat) :
    (d.switchOff .coolValve k).restTimer = some (k + Config.coolRest) := by
  show Drives.restTimer (if d.cool.on = true then _ else _) = _
  rw [if_pos on]

/-- R151: the rest ends within a cycle whose on phase was deferred. -/
theorem restEnd_of_deferred {d : Drives} {rest begun : Nat} (rests : d.restTimer = some rest)
    (deferred : d.deferred = true) (start : d.cool.start = some begun) (off : d.cool.on = false)
    (duty : 0 < d.cool.active) :
    d.restEnd = { d with restTimer := none, deferred := false, cool := { d.cool with
      on := decide (rest + Config.coolLeastOn ≤ begun + d.cool.active * 200000) } } := by
  unfold Drives.restEnd
  rw [rests, deferred]
  dsimp only
  rw [start, decide_eq_true duty]
  dsimp only
  have onTime : onTime .coolValve d.cool.active = d.cool.active * 200000 := rfl
  rw [onTime, Bool.true_and, Bool.true_and]
  split
  next begins => rw [begins]
  next late =>
    have stays : { d.cool with on := false } = d.cool := by rw [← off]
    rw [Bool.eq_false_iff.mpr late, ← start, stays]

/-- Settles O53: the end of a period, of an on-time and of the cool valve's rest. -/
theorem periodsRun : Obligations.PeriodsRun := by
  intro s ready
  refine ⟨fun ch started => ?_, fun ch on short => ?_, fun begun rest rests deferred start off duty => ?_⟩
  · obtain ⟨b, start⟩ := Option.isSome_iff_exists.mp started
    refine ⟨s.periodEnded ch, exec_becomes ready (c := .periodEnd ch) rfl ready.2, rfl, ?_⟩
    have channel := channel_periodEnd start s.clock
    have others (other : DutyChannel) (apart : other ≠ ch) :=
      channel_periodEnd_other start s.clock apart
    have fan : (s.dcc.periodEnd ch s.clock).fan = s.dcc.fan := by
      rw [periodEnd_of_started start, beginPeriod_fan, setChannel_fan]
    have damper : (s.dcc.periodEnd ch s.clock).damper = s.dcc.damper := by
      rw [periodEnd_of_started start, beginPeriod_damper, setChannel_damper]
    have ends : (s.periodEnded ch).dcc =
        (s.dcc.periodEnd ch s.clock).rewatch s.dcc.watched s.clock := rfl
    have blower : ((s.dcc.periodEnd ch s.clock).rewatch s.dcc.watched s.clock).blower =
        (s.dcc.periodEnd ch s.clock).blower := channel_rewatch _ _ _ .blower
    rw [ends, channel_rewatch, blower, rewatch_fan fan, rewatch_damper, damper, channel]
    refine ⟨rfl, rfl, rfl, rfl, fun idle => if_pos idle, fun duty free => ?_,
      fun duty cool rests => ?_, fun other apart => ?_, rfl, rfl⟩
    · refine (if_neg duty.ne').trans (if_neg ?_)
      rintro ⟨rfl, rests⟩
      rcases free with other | none
      · exact other rfl
      · rw [none] at rests
        cases rests
    · exact (if_neg duty.ne').trans (if_pos ⟨cool, rests⟩)
    · rw [channel_rewatch, others other apart]
  · refine ⟨s.onTimePassed ch, exec_becomes ready (c := .onTimePassed ch) rfl ready.2, rfl, ?_⟩
    have ends : (s.onTimePassed ch).dcc =
        (s.dcc.switchOff ch s.clock).rewatch s.dcc.watched s.clock := by
      rw [← onTimePassed_of_on on short]
      rfl
    rw [ends, channel_rewatch,
      rewatch_damper, switchOff_damper, channel_switchOff]
    refine ⟨rfl, ?_, fun other apart => ?_, rfl⟩
    · rintro rfl
      rw [rewatch_restTimer]
      exact switchOff_restTimer on _
    · rw [channel_rewatch, channel_switchOff_other _ _ apart]
  · refine ⟨s.changeDrives Drives.restEnd, exec_becomes ready (c := .coolValveRestEnd) rfl ready.2, rfl, ?_⟩
    have ends : (s.changeDrives Drives.restEnd).dcc =
        s.dcc.restEnd.rewatch s.dcc.watched s.clock := rfl
    have kept (ch : DutyChannel) := channel_rewatch s.dcc.restEnd s.dcc.watched s.clock ch
    have blower := kept .blower
    have heat := kept .heatValve
    have cool := kept .coolValve
    have damper := rewatch_damper s.dcc.restEnd s.dcc.watched s.clock
    have rest' := rewatch_restTimer s.dcc.restEnd s.dcc.watched s.clock
    have deferred' := rewatch_deferred s.dcc.restEnd s.dcc.watched s.clock
    refine ⟨?_, ?_, cool.trans ?_, blower.trans ?_, heat.trans ?_, ?_⟩
    · rw [ends, rest', restEnd_of_deferred rests deferred start off duty]
    · rw [ends, deferred', restEnd_of_deferred rests deferred start off duty]
    · rw [restEnd_of_deferred rests deferred start off duty]; rfl
    · rw [restEnd_of_deferred rests deferred start off duty]; rfl
    · rw [restEnd_of_deferred rests deferred start off duty]; rfl
    · rw [ends, damper, restEnd_of_deferred rests deferred start off duty]

end Sys2Proof.Machine
end

section
/-! PROOF. The damper's steps, its dead interval and its end-stop. -/

namespace Sys2Proof.Machine

/-- R153: a step that meets no end-stop, of a homed damper. -/
theorem stepEnd_of_homed {m : Damper} (homed : m.homed = .homed) (runs : m.stepTimer.isSome = true)
    (travel k : Nat) :
    m.stepEnd false travel k = (({ m with endStop := false } : Damper).stepped k, false) := by
  obtain ⟨t, timer⟩ := Option.isSome_iff_exists.mp runs
  cases m
  dsimp only at homed timer
  subst homed timer
  rfl

theorem stepDone_of_homed {s : State} (homed : s.dcc.damper.homed = .homed)
    (runs : s.dcc.damper.stepTimer.isSome = true) :
    s.stepDone false =
      s.changeDamper fun m => ({ m with endStop := false } : Damper).stepped s.clock := by
  unfold State.stepDone
  rw [stepEnd_of_homed homed runs]
  rfl

/-- R153: a step toward opening. -/
theorem stepped_of_opening {m : Damper} {p : Nat} (motion : m.motion = .opening)
    (position : m.position = some p) (k : Nat) :
    m.stepped k = if p + 1 = m.target then ({ m with position := some (p + 1) } : Damper).stop k
      else { m with position := some (p + 1), stepTimer := some (k + Config.stepTime) } := by
  cases m
  dsimp only at motion position
  subst motion position
  rfl

/-- R153: a step toward closing. -/
theorem stepped_of_closing {m : Damper} {p : Nat} (motion : m.motion = .closing)
    (position : m.position = some (p + 1)) (k : Nat) :
    m.stepped k = if p = m.target then ({ m with position := some p } : Damper).stop k
      else { m with position := some p, stepTimer := some (k + Config.stepTime) } := by
  cases m
  dsimp only at motion position
  subst motion position
  rfl

/-- R156, R157: the last step of a homing run that found no end-stop. -/
theorem stepEnd_of_lastHoming {m : Damper} (homing : m.homed = .homing)
    (runs : m.stepTimer.isSome = true) {travel : Nat} (last : travel + 10 ≤ m.homingSteps + 1)
    (k : Nat) :
    m.stepEnd false travel k = ({ m with
      endStop := false, homingSteps := m.homingSteps + 1, homed := .unhomed
      position := none, faultLatch := true, motion := .dead, stepTimer := none
      deadTimer := some (k + Config.deadTime) }, true) := by
  obtain ⟨t, timer⟩ := Option.isSome_iff_exists.mp runs
  cases m
  dsimp only at homing timer
  subst homing timer
  exact if_pos last

theorem stepDone_of_lastHoming {s : State} (homing : s.dcc.damper.homed = .homing)
    (runs : s.dcc.damper.stepTimer.isSome = true)
    (last : s.travel + 10 ≤ s.dcc.damper.homingSteps + 1) :
    s.stepDone false = (s.changeDamper fun m => { m with
      endStop := false, homingSteps := m.homingSteps + 1, homed := .unhomed
      position := none, faultLatch := true, motion := .dead, stepTimer := none
      deadTimer := some (s.clock + Config.deadTime) }).raise damperOrigin .damperFault none none
        (some (s.travel + 10)) := by
  unfold State.stepDone
  rw [stepEnd_of_lastHoming homing runs last]
  rfl

/-- R153, R156: the end of the dead interval within a homing run. -/
theorem deadEnd_of_homing {m : Damper} (homing : m.homed = .homing)
    (runs : m.deadTimer.isSome = true) (k : Nat) (moves : Bool) :
    m.deadEnd k moves = { m with
      deadTimer := none, motion := .closing, stepTimer := some (k + Config.stepTime) } := by
  obtain ⟨t, timer⟩ := Option.isSome_iff_exists.mp runs
  cases m
  dsimp only at homing timer
  subst homing timer
  rfl

/-- R153: from IDLE a homed damper sets off towards its target. -/
theorem moveFromIdle_of_position {m : Damper} {p : Nat} (position : m.position = some p) (k : Nat) :
    m.moveFromIdle k = if p = m.target then m else
      { m with motion := if p < m.target then .opening else .closing
               stepTimer := some (k + Config.stepTime) } := by
  cases m with
  | mk _ _ target =>
  dsimp only at position
  subst position
  unfold Damper.moveFromIdle Damper.driveClosed
  dsimp only
  rcases Nat.lt_trichotomy p target with below | same | above
  · rw [if_pos below, if_neg below.ne, if_pos below]
  · rw [if_neg (by omega), if_neg (by omega), if_pos same]
  · rw [if_neg (by omega), if_pos above, if_neg above.ne', if_neg (by omega)]

/-- R153: the end of the dead interval of a homed damper that may move. -/
theorem deadEnd_of_homed {m : Damper} {p : Nat} (homed : m.homed = .homed)
    (runs : m.deadTimer.isSome = true) (position : m.position = some p) (k : Nat) :
    m.deadEnd k true = if p = m.target then { m with deadTimer := none, motion := .idle }
      else { m with deadTimer := none
                    motion := if p < m.target then .opening else .closing
                    stepTimer := some (k + Config.stepTime) } := by
  obtain ⟨t, timer⟩ := Option.isSome_iff_exists.mp runs
  have moves := moveFromIdle_of_position (m := { m with deadTimer := none, motion := .idle })
    position k
  cases m
  dsimp only at homed timer
  subst homed timer
  exact moves

/-- R155, R156: DMPEND in the running part. -/
theorem endStopActive_of_running {s : State} (running : s.held = false) :
    s.endStopActive = s.changeDamper fun m => ({ m with endStop := true } : Damper).endStopMet s.clock := by
  have held : (s.changeDamper fun m => { m with endStop := true }).held = false := running
  exact if_neg (Bool.eq_false_iff.mp held)

/-- R155, R156: the end-stop ends a homing run and a drive toward it. -/
theorem endStopMet_of_reached {m : Damper}
    (reached : m.homed = .homing ∨ m.homed = .homed ∧ m.motion = .closing) (k : Nat) :
    m.endStopMet k = { m with
      homed := .homed, position := some 0, motion := .dead, stepTimer := none
      deadTimer := some (k + Config.deadTime) } := by
  cases m
  dsimp only at reached
  rcases reached with rfl | ⟨rfl, rfl⟩ <;> rfl

/-- R155: elsewhere it moves nothing of a homed damper. -/
theorem endStopMet_of_away {m : Damper} (homed : m.homed = .homed) (away : m.motion ≠ .closing)
    (k : Nat) : m.endStopMet k = m := by
  unfold Damper.endStopMet
  rw [homed]
  cases motion : m.motion with
  | closing => exact absurd motion away
  | opening => rfl
  | dead => rfl
  | idle => rfl

/-- Settles O54. -/
theorem damperMoves : Obligations.DamperMoves := by
  intro s ready
  refine ⟨fun p homed motion position runs => ?_, fun p homed motion position runs => ?_,
    fun homing runs last => ?_, fun homing runs => ?_, fun p homed runs position outside => ?_,
    fun reached => ?_, fun homed away => ?_⟩
  · refine exec_becomes ready ((stepDone_of_homed homed runs).trans ?_) ready.2
    exact congrArg (fun m => s.setDcc { s.dcc with damper := m })
      (stepped_of_opening (m := { s.dcc.damper with endStop := false }) motion position _)
  · refine exec_becomes ready ((stepDone_of_homed homed runs).trans ?_) ready.2
    exact congrArg (fun m => s.setDcc { s.dcc with damper := m })
      (stepped_of_closing (m := { s.dcc.damper with endStop := false }) motion position _)
  · exact exec_reports ready (stepDone_of_lastHoming homing runs last) ready.2
  · exact exec_becomes ready (c := .deadTimerExpiry) (congrArg (fun m => s.setDcc { s.dcc with
      damper := m }) (deadEnd_of_homing homing runs _ _)) ready.2
  · have moves : s.damperMoves = true := decide_eq_true outside
    refine exec_becomes ready (c := .deadTimerExpiry) ?_ ready.2
    show s.deadDone = _
    rw [State.deadDone, moves]
    exact congrArg (fun m => s.setDcc { s.dcc with damper := m })
      (deadEnd_of_homed homed runs position _)
  · refine exec_becomes ready ((endStopActive_of_running ready.1).trans ?_) ready.2
    exact congrArg (fun m => s.setDcc { s.dcc with damper := m })
      (endStopMet_of_reached (m := { s.dcc.damper with endStop := true }) reached _)
  · refine exec_becomes ready ((endStopActive_of_running ready.1).trans ?_) ready.2
    exact congrArg (fun m => s.setDcc { s.dcc with damper := m })
      (endStopMet_of_away (m := { s.dcc.damper with endStop := true }) homed away _)

end Sys2Proof.Machine
end

section
/-! SUPPORT. What a recomputation of the caps makes of the interlock, the self entry, the channels and the blower (R141 to R143, R149). -/

namespace Sys2Proof.Machine

/-- R97: a forced RELEASE is the queue's alone. -/
theorem forceRelease_eq (s : State) (r : Resource) (t : Nat) :
    s.forceRelease r t = s.setTxq (s.forceRelease r t).txq := by
  unfold State.forceRelease
  split
  · rfl
  · split <;> rfl

/-- R142: the interlock as it evaluates, and the self entry without valves where it stands. -/
theorem evalInterlock_eq (s : State) (img : Image) (e : Entry) :
    s.evalInterlock img e =
      ((s.setZlp { s.zlp with interlock := s.interlockNow img e }).setStb { s.stb with
        self := if s.interlockNow img e then s.stb.self.map Entry.withoutValves
                else s.stb.self }).setTxq (s.evalInterlock img e).txq := by
  unfold State.evalInterlock
  cases s.interlockNow img e with
  | false => rfl
  | true =>
    rw [if_pos rfl, if_pos rfl]
    dsimp only
    split
    · rw [forceRelease_eq _ .heat, forceRelease_eq _ .cool]
      rfl
    · rfl

/-- R142: the interlock after a recomputation, and the self entry with it. -/
theorem recomputeCaps_interlock {s : State} {img : Image} {e : Entry}
    (image : s.cfg.image = some img) (self : s.stb.self = some e) :
    s.recomputeCaps.zlp.interlock = s.interlockNow img e ∧
      s.recomputeCaps.stb.self =
        some (if s.interlockNow img e then e.withoutValves else e) := by
  obtain ⟨x, -, -, pushed⟩ := recomputeCaps_some image self
  have interlock : s.recomputeCaps.zlp.interlock = (s.evalInterlock img e).zlp.interlock := by
    rw [pushed]; rfl
  have stands : s.recomputeCaps.stb.self = (s.evalInterlock img e).stb.self := by rw [pushed]; rfl
  rw [interlock, stands, evalInterlock_eq]
  refine ⟨rfl, ?_⟩
  rw [State.setTxq_stb, State.setStb_stb, self]
  dsimp only
  split <;> rfl

theorem evalInterlock_dcc (s : State) (img : Image) (e : Entry) :
    (s.evalInterlock img e).dcc = s.dcc := by
  rw [evalInterlock_eq]
  rfl

theorem evalInterlock_follows (s : State) (img : Image) (e : Entry) (ch : DutyChannel) :
    (s.evalInterlock img e).follows ch = s.follows ch := by
  refine follows_congr ?_ ?_ ch
  · rw [evalInterlock_eq]
    rfl
  · rw [evalInterlock_dcc]

/-- R145, R149: a channel that is held off takes a cap alone. -/
theorem channel_recomputeCaps_of_heldOff {s : State} {ch : DutyChannel}
    (off : s.follows ch = false) :
    ∃ cap, s.recomputeCaps.dcc.channel ch = { s.dcc.channel ch with cap := cap } := by
  cases image : s.cfg.image with
  | none => exact ⟨_, by rw [recomputeCaps_of_no_image image]⟩
  | some img =>
    cases self : s.stb.self with
    | none => exact ⟨_, by rw [recomputeCaps_of_no_self self]⟩
    | some e =>
      obtain ⟨x, -, -, pushed⟩ := recomputeCaps_some image self
      refine ⟨((s.evalInterlock img e).caps img x).of ch, ?_⟩
      rw [pushed, channel_pushCaps, channel_pushCap, evalInterlock_follows, off, evalInterlock_dcc]
      exact if_pos rfl

/-- R142, R149: the interlock shuts a valve that follows its caps. -/
theorem valve_of_interlocked {s : State} {img : Image} {e : Entry} {ch : DutyChannel}
    (image : s.cfg.image = some img) (self : s.stb.self = some e)
    (interlocked : s.interlockNow img e = true) (valve : ch ≠ .blower)
    (follows : s.follows ch = true) : (s.recomputeCaps.dcc.channel ch).on = false := by
  obtain ⟨x, -, -, pushed⟩ := recomputeCaps_some image self
  have shut : ((s.evalInterlock img e).caps img x).of ch = 0 := by
    have stands : (s.evalInterlock img e).zlp.interlock = true := by
      rw [evalInterlock_eq]
      exact interlocked
    cases ch with
    | blower => exact absurd rfl valve
    | heatValve => exact if_pos stands
    | coolValve => exact if_pos stands
  rw [pushed, channel_pushCaps, channel_pushCap, evalInterlock_follows, follows, shut]
  rfl

/-- R143, R160: a recomputation leaves the blower's record, but for the watch's timers. -/
theorem recomputeCaps_fan (s : State) :
    ∃ stall run, s.recomputeCaps.dcc.fan =
        { s.dcc.fan with stallTimer := stall, goodRunTimer := run } ∧
      (s.dcc.fan.condition ≠ .running → s.dcc.fan.stallTimer = none →
        s.dcc.fan.goodRunTimer = none → stall = none ∧ run = none) := by
  have same : ∃ stall run, s.dcc.fan =
        { s.dcc.fan with stallTimer := stall, goodRunTimer := run } ∧
      (s.dcc.fan.condition ≠ .running → s.dcc.fan.stallTimer = none →
        s.dcc.fan.goodRunTimer = none → stall = none ∧ run = none) :=
    ⟨_, _, rfl, fun _ stall run => ⟨stall, run⟩⟩
  cases image : s.cfg.image with
  | none => rw [recomputeCaps_of_no_image image]; exact same
  | some img =>
    cases self : s.stb.self with
    | none => rw [recomputeCaps_of_no_self self]; exact same
    | some e =>
      obtain ⟨x, -, -, pushed⟩ := recomputeCaps_some image self
      have dcc := evalInterlock_dcc s img e
      rw [pushed, State.pushCaps, State.changeDrives, State.setDcc_dcc, rewatch_fan (by simp), dcc]
      split
      next watched =>
        split
        · exact ⟨_, _, rfl, fun stopped => absurd watched.1 stopped⟩
        · exact ⟨_, _, rfl, fun stopped => absurd watched.1 stopped⟩
      next => exact ⟨_, _, rfl, fun _ _ _ => ⟨rfl, rfl⟩⟩

/-- R160: a blower that is not running keeps its record. -/
theorem recomputeCaps_fan_of_stopped {s : State} (stopped : s.dcc.fan.condition ≠ .running)
    (stall : s.dcc.fan.stallTimer = none) (run : s.dcc.fan.goodRunTimer = none) :
    s.recomputeCaps.dcc.fan = s.dcc.fan := by
  obtain ⟨a, b, fan, quiet⟩ := recomputeCaps_fan s
  obtain ⟨rfl, rfl⟩ := quiet stopped stall run
  rw [fan]
  generalize s.dcc.fan = b at stall run
  cases b
  cases stall
  cases run
  rfl

/-- R189: two events of which the first precedes the second enter in their order. -/
theorem flush_svc_of_two {t : State} {a b : Raised} (order : a.origin.precedes b.origin = true)
    (raised : t.raised = [a, b]) : t.flush.svc = (t.svc.post a.record).post b.record := by
  have merged : mergeEvents 2 t.freeCount [a, b] = ([a.record, b.record], t.freeCount) := by
    simp [mergeEvents, nextEvents, order]
  show (mergeEvents t.raised.length t.freeCount t.raised).1.foldl ServiceLine.post t.svc = _
  rw [raised]
  show (mergeEvents 2 t.freeCount [a, b]).1.foldl ServiceLine.post t.svc = _
  rw [merged]
  rfl

end Sys2Proof.Machine
end

section
/-! PROOF. Tach edges, stalls, the restart wait and good running. -/

namespace Sys2Proof.Machine

/-- R159: the tach period lies within 1 to 65535, and its units are those of the time or one more. -/
theorem tachPeriodOf_eq (elapsed free : Nat) :
    ∃ x, tachPeriodOf elapsed free = max 1 (min 65535 x) ∧
      (x = elapsed / 200 ∨ x = elapsed / 200 + 1 ∧ elapsed % 200 ≠ 0) := by
  refine ⟨elapsed / 200 + (if elapsed % 200 = 0 then 0 else free % 2), rfl, ?_⟩
  split
  next whole => exact .inl rfl
  next part =>
    rcases Nat.mod_two_eq_zero_or_one free with even | odd
    · exact .inl (by rw [even]; rfl)
    · exact .inr ⟨by rw [odd], part⟩

/-- R159, R160: an edge in the running part. -/
theorem exec_tachEdge {s : State} (ready : s.Ready) (captures : s.cfg.image.isSome = true) :
    exec .tachEdge s = .next (((s.setDcc (s.dcc.edgeSeen s.clock s.free)).setSvc
      (if s.dcc.fan.window = 254
       then s.svc.post (s.event .tachOverrun none none (some 255)) else s.svc)).setFreeCount
        (s.freeCount + 1)) := by
  have edge : effect .tachEdge s = if s.dcc.fan.window = 254
      then (s.drawn.setDcc (s.dcc.edgeSeen s.clock s.free)).raise tachOrigin .tachOverrun none none
        (some 255)
      else s.drawn.setDcc (s.dcc.edgeSeen s.clock s.free) := if_pos captures
  by_cases full : s.dcc.fan.window = 254
  · rw [if_pos full] at edge ⊢
    exact exec_reports ready edge ready.2
  · rw [if_neg full] at edge ⊢
    exact exec_becomes ready edge ready.2

theorem edgeSeen_stallTimer {d : Drives} (running : d.fan.condition = .running)
    (driven : 200 ≤ d.blower.active) (clock free : Nat) :
    (d.edgeSeen clock free).fan.stallTimer = some (clock + Config.stallTime) :=
  if_pos (by rw [Drives.watched, decide_eq_true running, decide_eq_true driven]; rfl)

/-- R161: the blower off, and its record after a stall. -/
def Drives.stallOff (d : Drives) (k : Nat) : Drives :=
  { d with blower := { d.blower with on := false, active := 0, buffered := 0 }
           fan := d.fan.stall k }

/-- R161, R162: a stalled blower is not running and not watched. -/
theorem stall_stopped (b : Blower) (k : Nat) :
    (b.stall k).condition ≠ .running ∧ (b.stall k).stallTimer = none ∧
      (b.stall k).goodRunTimer = none ∧ (b.stall k).stallCount = b.stallCount + 1 := by
  unfold Blower.stall
  dsimp only
  split
  · exact ⟨nofun, rfl, rfl, rfl⟩
  · exact ⟨nofun, rfl, rfl, rfl⟩

/-- R162: short of the third stall the blower waits for its restart. -/
theorem stall_of_short {b : Blower} (short : b.stallCount + 1 < 3) (k : Nat) :
    b.stall k = { b with
      stallCount := b.stallCount + 1, stallTimer := none, goodRunTimer := none
      condition := .stalled, restartTimer := some (k + Config.restartTime) } := if_pos short

/-- R162: the third stall is a fault. -/
theorem stall_of_third {b : Blower} (third : b.stallCount + 1 = 3) (k : Nat) :
    b.stall k = { b with
      stallCount := b.stallCount + 1, stallTimer := none, goodRunTimer := none
      condition := .fault, restartTimer := none, faultLatch := true } :=
  if_neg (Nat.not_lt.mpr third.ge)

/-- R161: the channels after a stall: the watch has ended with it. -/
theorem changeDrives_stall (s : State) :
    (s.changeDrives fun d => { d.forceOff .blower s.clock with
      fan := (d.forceOff .blower s.clock).fan.stall s.clock }) =
      s.setDcc (s.dcc.stallOff s.clock) := by
  have off : ({ s.dcc.forceOff .blower s.clock with
      fan := (s.dcc.forceOff .blower s.clock).fan.stall s.clock } : Drives) =
        s.dcc.stallOff s.clock := rfl
  obtain ⟨stopped, stall, run, -⟩ := stall_stopped s.dcc.fan s.clock
  have watched : (s.dcc.stallOff s.clock).watched = false := by
    rw [Drives.watched, Drives.stallOff, decide_eq_false stopped]
    rfl
  have kept : ({ s.dcc.fan.stall s.clock with stallTimer := none, goodRunTimer := none } : Blower) =
      s.dcc.fan.stall s.clock := by
    generalize s.dcc.fan.stall s.clock = b at stall run
    cases b
    cases stall
    cases run
    rfl
  unfold State.changeDrives
  dsimp only
  rw [off, Drives.rewatch, watched, if_neg Bool.false_ne_true]
  show s.setDcc { s.dcc.stallOff s.clock with fan := { s.dcc.fan.stall s.clock with
    stallTimer := none, goodRunTimer := none } } = _
  rw [kept]
  rfl

/-- R161, R162: the events of a stall. -/
def State.stallEvents (s : State) : List Raised :=
  { origin := blowerOrigin, record := s.event .blowerStall none none (some s.dcc.fan.stallCount) } ::
    if s.dcc.fan.condition = .fault
    then [{ origin := blowerOrigin, record := s.event .blowerFault none none (some 3) }] else []

theorem raiseStall_eq (s : State) : s.raiseStall = s.setRaised (s.raised ++ s.stallEvents) := by
  unfold State.raiseStall
  dsimp only
  split
  next fault =>
    rw [State.stallEvents, if_pos (show s.dcc.fan.condition = .fault from fault)]
    show s.setRaised ((s.raised ++ [_]) ++ [_]) = _
    rw [List.append_assoc]
    rfl
  next waits =>
    rw [State.stallEvents, if_neg (show ¬s.dcc.fan.condition = .fault from waits)]
    rfl

/-- R161: a stall up to its report to the Zone Loop. -/
theorem stalled_of_running {s : State} (runs : s.dcc.fan.stallTimer.isSome = true) :
    s.stalled = ((s.setDcc (s.dcc.stallOff s.clock)).setRaised
      (s.raised ++ (s.setDcc (s.dcc.stallOff s.clock)).stallEvents)).blowerReport := by
  obtain ⟨t, timer⟩ := Option.isSome_iff_exists.mp runs
  have events := raiseStall_eq (s.setDcc (s.dcc.stallOff s.clock))
  rw [State.setDcc_raised] at events
  rw [← events, ← changeDrives_stall]
  unfold State.stalled
  rw [timer]

/-- R144: demands and blower duty given up, and the draws released, before the caps. -/
def State.blowerGivenUp (s : State) : State :=
  ((((s.setZlp { s.zlp with demand := { s.zlp.demand with power := 0 }, blowerDuty := 0 }).mapSelf
    fun e => { e with demand := .all (some 0) }).forceRelease .cool 0).forceRelease .heat
      0).forceRelease .power 0

theorem blowerStopped_eq (s : State) : s.blowerStopped = s.blowerGivenUp.recomputeCaps := rfl

theorem blowerGivenUp_eq (s : State) :
    s.blowerGivenUp = ((s.setZlp { s.zlp with
      demand := { s.zlp.demand with power := 0 }, blowerDuty := 0 }).mapSelf fun e =>
        { e with demand := .all (some 0) }).setTxq s.blowerGivenUp.txq := by
  unfold State.blowerGivenUp
  rw [forceRelease_eq _ .power, forceRelease_eq _ .heat, forceRelease_eq _ .cool]
  rfl

theorem forceRelease_onWire (s : State) (r : Resource) (t : Nat) :
    (s.forceRelease r t).txq.onWire = s.txq.onWire := by
  rw [(forceRelease_caps s r t).txq]

/-- R144: every draw above 0 is released. -/
theorem blowerGivenUp_releases {s : State} {e : Entry} (self : s.stb.self = some e) {r : Resource}
    (drawn : 0 < e.committed.get r) (free : s.txq.onWire ≠ some (.claim r)) :
    s.blowerGivenUp.txq.ReleasesTo r 0 := by
  unfold State.blowerGivenUp
  have own : (((s.setZlp { s.zlp with demand := { s.zlp.demand with power := 0 }
                                      blowerDuty := 0 }).mapSelf fun e =>
      { e with demand := .all (some 0) }).stb.self) =
        some { e with demand := .all (some 0) } := by
    rw [State.mapSelf, State.setStb_stb, State.setZlp_stb, self]
    rfl
  have wire : (((s.setZlp { s.zlp with demand := { s.zlp.demand with power := 0 }
                                       blowerDuty := 0 }).mapSelf fun e =>
      { e with demand := .all (some 0) }).txq.onWire) = s.txq.onWire := rfl
  generalize (s.setZlp { s.zlp with demand := { s.zlp.demand with power := 0 }
                                    blowerDuty := 0 }).mapSelf _ = x at own wire ⊢
  rw [← wire] at free
  have stb := forceRelease_stb x .cool 0
  have onWire := forceRelease_onWire x .cool 0
  cases r with
  | cool =>
    exact ((asks_forceRelease _ .heat 0).trans (asks_forceRelease _ .power 0)).releasesTo
      (releasesTo_forceRelease ⟨_, own, drawn⟩ free)
  | heat =>
    refine (asks_forceRelease _ .power 0).releasesTo (releasesTo_forceRelease ⟨{ e with demand := .all (some 0) }, ?_, drawn⟩ ?_)
    · rw [stb, own]
    · rw [onWire]
      exact free
  | power =>
    refine releasesTo_forceRelease ⟨{ e with demand := .all (some 0) }, ?_, drawn⟩ ?_
    · rw [forceRelease_stb, stb, own]
    · rw [forceRelease_onWire, onWire]
      exact free

/-- R144: in MEMBER a stopped blower takes the POWER demand, the blower duty and the published demands with it. -/
theorem blowerReport_of_member {x : State} (member : x.isMember = true)
    (stopped : x.dcc.fan.condition ≠ .running) : x.blowerReport = x.blowerGivenUp.recomputeCaps := by
  rw [State.blowerReport, member, decide_eq_true stopped]
  rfl

/-- R144: what the report of a stopped blower leaves of the channels and the events. -/
theorem blowerReport_of_stopped {x : State} (stopped : x.dcc.fan.condition ≠ .running)
    (stall : x.dcc.fan.stallTimer = none) (run : x.dcc.fan.goodRunTimer = none) :
    x.blowerReport.raised = x.raised ∧ x.blowerReport.dcc.fan = x.dcc.fan ∧
      ∃ cap, x.blowerReport.dcc.blower = { x.dcc.blower with cap := cap } := by
  have reports : ∃ w : State, x.blowerReport = w.recomputeCaps ∧ w.dcc = x.dcc ∧
      w.raised = x.raised := by
    unfold State.blowerReport
    split
    · refine ⟨_, blowerStopped_eq x, ?_, ?_⟩ <;> rw [blowerGivenUp_eq] <;> rfl
    · exact ⟨x, rfl, rfl, rfl⟩
  obtain ⟨w, report, dcc, raised⟩ := reports
  rw [← dcc] at stopped stall run ⊢
  have off : w.follows .blower = false := by
    rw [State.follows, decide_eq_false stopped, Bool.and_false]
  rw [report, (recomputeCaps_caps w).raised, raised,
    recomputeCaps_fan_of_stopped stopped stall run]
  exact ⟨rfl, rfl, channel_recomputeCaps_of_heldOff off⟩

end Sys2Proof.Machine
end

section
/-! PROOF. The blower's watch: edges, a stall and its report, the restart, good running. -/

namespace Sys2Proof.Machine

/-- R161, R162: the state before the report of a stall. -/
def State.stallRaised (s : State) : State :=
  (s.setDcc (s.dcc.stallOff s.clock)).setRaised
    (s.raised ++ (s.setDcc (s.dcc.stallOff s.clock)).stallEvents)

/-- R160, R162: a blower that has stalled neither runs nor is watched. -/
theorem stallRaised_stopped (s : State) : s.stallRaised.dcc.fan.condition ≠ .running ∧
    s.stallRaised.dcc.fan.stallTimer = none ∧ s.stallRaised.dcc.fan.goodRunTimer = none := by
  obtain ⟨stopped, stall, run, -⟩ := stall_stopped s.dcc.fan s.clock
  exact ⟨stopped, stall, run⟩

/-- R161: the channels, the blower and the events at the end of a stall. -/
theorem stallReported (s : State) :
    s.stallRaised.blowerReport.dcc.fan = s.dcc.fan.stall s.clock ∧
      s.stallRaised.blowerReport.dcc.blower.on = false ∧
      s.stallRaised.blowerReport.dcc.blower.active = 0 ∧
      s.stallRaised.blowerReport.dcc.blower.buffered = 0 ∧
      s.stallRaised.blowerReport.raised =
        s.raised ++ (s.setDcc (s.dcc.stallOff s.clock)).stallEvents := by
  obtain ⟨stopped, stall, run⟩ := stallRaised_stopped s
  obtain ⟨raised, fan, cap, blower⟩ := blowerReport_of_stopped stopped stall run
  exact ⟨fan, by rw [blower]; rfl, by rw [blower]; rfl, by rw [blower]; rfl, raised⟩

/-- R162: short of the third stall one event is entered. -/
theorem stall_svc_of_short {s : State} (quiet : s.raised = []) (short : s.dcc.fan.stallCount + 1 < 3) :
    s.stallRaised.blowerReport.flush.svc =
      s.svc.post (s.event .blowerStall none none (some (s.dcc.fan.stallCount + 1))) := by
  obtain ⟨-, -, -, -, raised⟩ := stallReported s
  have svc := (blowerReport_notice s.stallRaised).svc
  have stall := stall_of_short short s.clock
  generalize s.stallRaised.blowerReport = z at raised svc
  refine flush_svc_of_one (s := s) (o := blowerOrigin) svc ?_
  rw [raised, quiet, State.stallEvents]
  show _ :: (if (s.dcc.fan.stall s.clock).condition = .fault then _ else _) = _
  rw [stall, if_neg (by exact nofun)]
  show [Raised.mk _ (s.event _ _ _ (some (s.dcc.fan.stall s.clock).stallCount))] = _
  rw [stall]

/-- R162: at the third the fault follows it. -/
theorem stall_svc_of_third {s : State} (quiet : s.raised = []) (third : s.dcc.fan.stallCount + 1 = 3) :
    s.stallRaised.blowerReport.flush.svc =
      (s.svc.post (s.event .blowerStall none none (some 3))).post
        (s.event .blowerFault none none (some 3)) := by
  obtain ⟨-, -, -, -, raised⟩ := stallReported s
  have svc := (blowerReport_notice s.stallRaised).svc
  have stall := stall_of_third third s.clock
  generalize s.stallRaised.blowerReport = z at raised svc
  rw [flush_svc_of_two (t := z)
    (a := { origin := blowerOrigin, record := s.event .blowerStall none none (some 3) })
    (b := { origin := blowerOrigin, record := s.event .blowerFault none none (some 3) }) rfl, svc]
  · rfl
  · rw [raised, quiet, State.stallEvents]
    show Raised.mk _ (s.event _ _ _ (some (s.dcc.fan.stall s.clock).stallCount)) ::
      (if (s.dcc.fan.stall s.clock).condition = .fault then _ else _) = _
    rw [stall, third]
    rfl

/-- R144: the published demands are given up. -/
theorem blowerGivenUp_self {x : State} {e : Entry} (self : x.stb.self = some e) :
    x.blowerGivenUp.stb.self = some { e with demand := .all (some 0) } := by
  rw [blowerGivenUp_eq, State.setTxq_stb, State.mapSelf, State.setStb_stb, State.setZlp_stb, self]
  rfl

/-- R144: what a stall leaves in MEMBER. -/
theorem stall_of_member {s : State} (member : s.mbr.station = .member) :
    s.stallRaised.blowerReport.zlp.demand = { s.zlp.demand with power := 0 } ∧
      s.stallRaised.blowerReport.zlp.blowerDuty = 0 ∧
      ∀ e, s.stb.self = some e → ∃ e', s.stallRaised.blowerReport.stb.self = some e' ∧
        e'.demand = .all (some 0) ∧ e'.committed = e.committed := by
  have stopped := (stallRaised_stopped s).1
  rw [blowerReport_of_member ((isMember_iff s.stallRaised).mpr member) stopped]
  have caps := recomputeCaps_caps s.stallRaised.blowerGivenUp
  have given := blowerGivenUp_eq s.stallRaised
  have own (e : Entry) (self : s.stb.self = some e) :=
    blowerGivenUp_self (x := s.stallRaised) (by exact self)
  generalize s.stallRaised.blowerGivenUp = w at caps given own ⊢
  have zlp := caps.zlp
  have stands := caps.self
  generalize w.recomputeCaps = z at zlp stands ⊢
  refine ⟨?_, ?_, fun e self => ?_⟩
  · rw [zlp, given]
    rfl
  · rw [zlp, given]
    rfl
  · rcases stands with same | shut
    · exact ⟨_, same.trans (own e self), rfl, rfl⟩
    · exact ⟨_, shut.trans (congrArg _ (own e self)), rfl, rfl⟩

/-- R142, R144: in MEMBER with an image, a stall closes the valves and releases every draw. -/
theorem stall_interlocks {s : State} {img : Image} {e : Entry} (member : s.mbr.station = .member)
    (image : s.cfg.image = some img) (self : s.stb.self = some e) :
    s.stallRaised.blowerReport.zlp.interlock = true ∧
      s.stallRaised.blowerReport.dcc.heat.on = false ∧
      s.stallRaised.blowerReport.dcc.cool.on = false ∧
      ∀ r, 0 < e.committed.get r → s.txq.onWire ≠ some (.claim r) →
        s.stallRaised.blowerReport.txq.intents.claim.get r = some (.release 0) := by
  have stopped := (stallRaised_stopped s).1
  rw [blowerReport_of_member ((isMember_iff s.stallRaised).mpr member) stopped]
  have releases (r : Resource) (drawn : 0 < e.committed.get r)
      (free : s.txq.onWire ≠ some (.claim r)) : s.stallRaised.blowerGivenUp.txq.ReleasesTo r 0 :=
    blowerGivenUp_releases (s := s.stallRaised) (by exact self) drawn (by exact free)
  have given := blowerGivenUp_eq s.stallRaised
  have self' := blowerGivenUp_self (x := s.stallRaised) (by exact self)
  generalize s.stallRaised.blowerGivenUp = w at releases given self'
  have image' : w.cfg.image = some img := by rw [given]; exact image
  have stopped' : w.dcc.fan.condition ≠ .running := by rw [given]; exact stopped
  have member' : w.mbr.station = .member := by rw [given]; exact member
  have now : w.interlockNow img { e with demand := .all (some 0) } = true := by
    rw [State.interlockNow, decide_eq_true stopped', Bool.or_true]
  have follows (ch : DutyChannel) (valve : ch ≠ .blower) : w.follows ch = true := by
    cases ch with
    | blower => exact absurd rfl valve
    | heatValve => rw [State.follows, member']; rfl
    | coolValve => rw [State.follows, member']; rfl
  refine ⟨(recomputeCaps_interlock image' self').1.trans now,
    valve_of_interlocked (ch := .heatValve) image' self' now nofun (follows _ nofun),
    valve_of_interlocked (ch := .coolValve) image' self' now nofun (follows _ nofun),
    fun r drawn free => ?_⟩
  obtain ⟨-, t, le, queued⟩ := (asks_recomputeCaps w).releasesTo (releases r drawn free)
  rw [queued, Nat.le_zero.mp le]

/-- R162: the restart wait ends a stall. -/
theorem restartEnd_of_running {s : State} (runs : s.dcc.fan.restartTimer.isSome = true) :
    s.restartEnd =
      (s.changeDrives fun d => { d with fan := d.fan.restarted }).blowerReport := by
  obtain ⟨t, timer⟩ := Option.isSome_iff_exists.mp runs
  unfold State.restartEnd
  rw [timer]

theorem blowerReport_of_running {x : State} (running : x.dcc.fan.condition = .running) :
    x.blowerReport = x.recomputeCaps := by
  have runs : decide (x.dcc.fan.condition ≠ .running) = false := by simp [running]
  unfold State.blowerReport
  rw [runs, Bool.and_false]
  rfl

/-- R160: the watch after any change of the channels leaves the blower's record but for its timers. -/
theorem changeDrives_fan (s : State) (f : Drives → Drives) :
    ∃ stall run, (s.changeDrives f).dcc.fan =
      { (f s.dcc).fan with stallTimer := stall, goodRunTimer := run } := by
  unfold State.changeDrives Drives.rewatch
  rw [State.setDcc_dcc]
  split
  · split
    · exact ⟨_, _, rfl⟩
    · exact ⟨_, _, rfl⟩
  · exact ⟨_, _, rfl⟩

/-- Settles O55. -/
theorem blowerIsWatched : Obligations.BlowerIsWatched := by
  refine ⟨fun s last ready captures edge => ?_, fun s ready => ⟨fun runs => ?_, fun runs stalled => ?_,
    fun runs => ?_⟩⟩
  · refine ⟨_, exec_tachEdge ready captures, rfl, ?_, rfl, edgeSeen_stallTimer (clock := s.clock)
      (free := s.free) (d := s.dcc), rfl, rfl⟩
    obtain ⟨x, period, units⟩ := tachPeriodOf_eq (s.clock - last) s.free
    refine ⟨x, ?_, units⟩
    rw [← period]
    show (match s.dcc.fan.lastEdge with
      | none => s.dcc.fan.period
      | some t => some (tachPeriodOf (s.clock - t) s.free)) = _
    rw [edge]
  · have acts : effect .stallTimerExpiry s = s.stallRaised.blowerReport := stalled_of_running runs
    refine ⟨_, exec_of_running ready.1 _, ?_⟩
    rw [acts]
    obtain ⟨fan, on, active, buffered, -⟩ := stallReported s
    obtain ⟨-, stall, run, count⟩ := stall_stopped s.dcc.fan s.clock
    have short (h : s.dcc.fan.stallCount + 1 < 3) := stall_svc_of_short ready.2 h
    have third (h : s.dcc.fan.stallCount + 1 = 3) := stall_svc_of_third ready.2 h
    have member (h : s.mbr.station = .member) := stall_of_member h
    have interlocks (img : Image) (e : Entry) (h : s.mbr.station = .member)
      (image : s.cfg.image = some img) (self : s.stb.self = some e) := stall_interlocks h image self
    have notice := blowerReport_notice s.stallRaised
    generalize s.stallRaised.blowerReport = z at *
    refine ⟨on, active, buffered, ?_, ?_, ?_, fun few => ⟨?_, ?_, ?_, short few⟩,
      fun three => ⟨?_, ?_, ?_, third three⟩, member, interlocks, notice.csr, notice.lnk, notice.mbr,
      notice.sup, notice.cfg, notice.clock, notice.pending, notice.damper⟩
    · rw [State.flush_dcc, fan, count]
    · rw [State.flush_dcc, fan, stall]
    · rw [State.flush_dcc, fan, run]
    · rw [State.flush_dcc, fan, stall_of_short few]
    · rw [State.flush_dcc, fan, stall_of_short few]
    · rw [State.flush_dcc, fan, stall_of_short few]
    · rw [State.flush_dcc, fan, stall_of_third three]
    · rw [State.flush_dcc, fan, stall_of_third three]
    · rw [State.flush_dcc, fan, stall_of_third three]
  · have acts : effect .restartTimerExpiry s = _ := restartEnd_of_running runs
    obtain ⟨a, b, fan⟩ := changeDrives_fan s fun d => { d with fan := d.fan.restarted }
    have condition : (s.changeDrives fun d =>
        { d with fan := d.fan.restarted }).dcc.fan.condition = .running := by
      rw [fan]
      exact if_pos stalled
    have rest : (s.changeDrives fun d => { d with fan := d.fan.restarted }) =
        s.setDcc (s.changeDrives fun d => { d with fan := d.fan.restarted }).dcc := rfl
    have damper : (s.changeDrives fun d => { d with fan := d.fan.restarted }).dcc.damper =
        s.dcc.damper := rewatch_damper _ _ _
    generalize (s.changeDrives fun d => { d with fan := d.fan.restarted }) = x
      at acts fan condition rest damper
    rw [blowerReport_of_running condition] at acts
    have caps := recomputeCaps_caps x
    have notice := caps.notice
    have quiet : x.recomputeCaps.raised = [] := by
      rw [caps.raised, rest]
      exact ready.2
    obtain ⟨a', b', fan', -⟩ := recomputeCaps_fan x
    refine ⟨_, exec_becomes ready acts quiet, ?_⟩
    rw [notice.condition, condition, fan', fan, notice.svc, notice.csr, notice.lnk, notice.mbr,
      notice.sup, notice.cfg, notice.clock, notice.pending, notice.damper, damper, rest]
    exact ⟨rfl, rfl, rfl, rfl, rfl, rfl, rfl, rfl, rfl, rfl, rfl, rfl⟩
  · obtain ⟨t, timer⟩ := Option.isSome_iff_exists.mp runs
    refine exec_becomes ready (c := .goodRunTimerExpiry) ?_ ready.2
    show s.goodRun = _
    rw [State.goodRun, timer]

end Sys2Proof.Machine
end

section
/-! SUPPORT. The bytes of a value and of an answer, and what a whole message comes to (R181 to R183). -/

namespace Sys2Proof.Machine

/-- Two digits of a value: the lower `p` of it, and one of base 256 above them. -/
theorem emod_mul_256 (v : Int) {p : Int} (pos : 0 < p) :
    v % (p * 256) = v / p % 256 * p + v % p := by
  have split : v = (v / p % 256 * p + v % p) + p * 256 * (v / p / 256) := by
    have high := Int.ediv_mul_add_emod (v / p) 256
    calc v = v / p * p + v % p := (Int.ediv_mul_add_emod v p).symm
      _ = (v / p / 256 * 256 + v / p % 256) * p + v % p := by rw [high]
      _ = _ := by ring
  have low := Int.emod_nonneg v pos.ne'
  have short := Int.emod_lt_of_pos v pos
  have digit := Int.emod_nonneg (v / p) (show (256 : Int) ≠ 0 by decide)
  have digit' := Int.emod_lt_of_pos (v / p) (show (0 : Int) < 256 by decide)
  conv_lhs => rw [split]
  rw [Int.add_mul_emod_self_left]
  exact Int.emod_eq_of_lt (by positivity) (by nlinarith)

theorem byte_ofInt_toNat (v : Int) : ((BitVec.ofInt 8 v).toNat : Int) = v % 256 := by
  rw [BitVec.toNat_ofInt]
  exact Int.toNat_of_nonneg (Int.emod_nonneg v (by decide))

/-- R181: the value that bytes after a leading part tell. -/
theorem beBytes_foldl (w : Nat) (v n : Int) :
    (beBytes w v).foldl (fun n b => n * 256 + (b.toNat : Int)) n = n * 256 ^ w + v % 256 ^ w := by
  induction w generalizing n with
  | zero => simp [beBytes]
  | succ w ih =>
    rw [beBytes, List.foldl_cons, ih, byte_ofInt_toNat, pow_succ, emod_mul_256 v (by positivity)]
    ring

/-- R181: the sum of a message's bytes from its length on is 0 modulo 256. -/
theorem messageChecksum_sum (command : Byte) (payload : List Byte) :
    (payload.length + command.toNat + (payload.map (·.toNat)).sum +
      (messageChecksum command payload).toNat) % 256 = 0 := by
  unfold messageChecksum byteOf
  rw [BitVec.toNat_ofNat]
  omega

/-- R181: an answer's data fills at most 254 bytes. -/
theorem answerData_length (d : AnswerData) (layout : AnswerLayout) :
    (d.bytes layout).length ≤ 254 := by
  unfold AnswerData.bytes
  split
  · show 2 ≤ 254
    decide
  · exact layout.fits d

theorem answerData_bytes {d : AnswerData} (layout : AnswerLayout)
    (plain : ∀ cause count, d ≠ .cause cause count) :
    d.bytes layout = d.fields.flatMap layout.fieldBytes := by
  unfold AnswerData.bytes
  split
  next cause count => exact absurd rfl (plain cause count)
  next => rfl

theorem statusByte_toNat (st : AnswerStatus) : (byteOf st.code).toNat = st.code := by
  cases st <;> rfl

/-! ### Messages -/

/-- R182: a code of the Service Line is its byte. -/
theorem codeByte_toNat {code : Nat} (known : code ≤ 13) : (BitVec.ofNat 8 code).toNat = code := by
  rw [BitVec.toNat_ofNat]
  omega

/-- R181: a row of the Service Line is the whole message of its code. -/
theorem effect_row {code : Nat} {row : ServiceMessage → Instr} (listed : (code, row) ∈ serviceRows)
    (m : ServiceMessage) (s : State) :
    effect (row m) s = s.message (BitVec.ofNat 8 code) m ∧ 1 ≤ code ∧ code ≤ 13 := by
  simp only [serviceRows, List.mem_cons, Prod.mk.injEq, List.not_mem_nil, or_false] at listed
  rcases listed with ⟨rfl, rfl⟩ | ⟨rfl, rfl⟩ | ⟨rfl, rfl⟩ | ⟨rfl, rfl⟩ | ⟨rfl, rfl⟩ | ⟨rfl, rfl⟩ |
    ⟨rfl, rfl⟩ | ⟨rfl, rfl⟩ | ⟨rfl, rfl⟩ | ⟨rfl, rfl⟩ | ⟨rfl, rfl⟩ | ⟨rfl, rfl⟩ | ⟨rfl, rfl⟩ <;>
    exact ⟨rfl, by decide, by decide⟩

theorem message_of_busy {s : State} (busy : s.svc.rx = .busy) (command : Byte) (m : ServiceMessage) :
    s.message command m = s := if_pos busy

/-- R182: a whole message of a length in range is taken in any other receive state. -/
theorem message_of_open {s : State} (free : s.svc.rx ≠ .busy) {m : ServiceMessage}
    (short : m.payload.length ≤ 8) (command : Byte) :
    s.message command m = s.takeMessage command m.payload m.checksum :=
  (if_neg free).trans (if_neg (Nat.not_lt.mpr short))

/-- R183: the answer to a command, with the receiver BUSY. -/
theorem reply_eq (s : State) (code : Nat) (status : AnswerStatus) (data : AnswerData) :
    s.reply (BitVec.ofNat 8 code) status data =
      s.setSvc (s.svc.answering s.clock code status data) := rfl

theorem takeMessage_of_bad {s : State} {command : Byte} {payload : List Byte} {checksum : Byte}
    (bad : checksumGood command payload checksum = false) :
    s.takeMessage command payload checksum = s.reply command .nak .none :=
  if_neg (Bool.eq_false_iff.mp bad)

theorem takeMessage_of_good {s : State} {command : Byte} {payload : List Byte} {checksum : Byte}
    (good : checksumGood command payload checksum = true) :
    s.takeMessage command payload checksum = s.takeCommand command payload := if_pos good

/-- R183: a code that is not among the thirteen. -/
theorem takeCommand_of_unknown {s : State} {command : Byte} {payload : List Byte}
    (unknown : command.toNat = 0 ∨ 13 < command.toNat) :
    s.takeCommand command payload = s.reply command .unknown .none := by
  have none : knownCode command.toNat = false := by
    simp only [knownCode, Bool.and_eq_false_iff, decide_eq_false_iff_not]
    omega
  rw [State.takeCommand, none]
  rfl

/-- R183: a known code in a station state that is ready for it. -/
theorem takeCommand_of_known {s : State} {code : Nat} {payload : List Byte} (least : 1 ≤ code)
    (most : code ≤ 13) :
    s.takeCommand (BitVec.ofNat 8 code) payload =
      if s.mbr.station.notReady && !alwaysReady code then
        s.reply (BitVec.ofNat 8 code) .notReady .none
      else
        match parseCommand code payload with
        | none => s.reply (BitVec.ofNat 8 code) .badValue .none
        | some c =>
          if c.needsMember && !s.isMember then s.reply (BitVec.ofNat 8 code) .notMember .none
          else (s.obey c).reply (BitVec.ofNat 8 code) .ok (s.answerData c) := by
  have known : knownCode code = true := by
    rw [knownCode, decide_eq_true least, decide_eq_true most]
    rfl
  rw [State.takeCommand, codeByte_toNat most, known]
  rfl

theorem alwaysReady_iff (code : Nat) : alwaysReady code = true ↔ code = 1 ∨ code = 10 := by
  simp [alwaysReady]

/-- R183: a message that the station state lets through. -/
theorem message_of_takes {s : State} {code : Nat} {m : ServiceMessage} (takes : s.Takes code m)
    (least : 1 ≤ code) (most : code ≤ 13) :
    s.message (BitVec.ofNat 8 code) m =
      match parseCommand code m.payload with
      | none => s.reply (BitVec.ofNat 8 code) .badValue .none
      | some c =>
        if c.needsMember && !s.isMember then s.reply (BitVec.ofNat 8 code) .notMember .none
        else (s.obey c).reply (BitVec.ofNat 8 code) .ok (s.answerData c) := by
  obtain ⟨-, free, short, good, ready⟩ := takes
  have through : ¬(s.mbr.station.notReady && !alwaysReady code) = true := by
    intro both
    rw [Bool.and_eq_true, Bool.not_eq_true'] at both
    rw [(alwaysReady_iff code).mpr (ready both.1)] at both
    cases both.2
  rw [message_of_open free short, takeMessage_of_good good, takeCommand_of_known least most,
    if_neg through]

/-- R183: a command that is let through is obeyed and answered OK. -/
theorem message_obeyed {s : State} {code : Nat} {m : ServiceMessage} (takes : s.Takes code m)
    (least : 1 ≤ code) (most : code ≤ 13) {c : ServiceCommand}
    (parsed : parseCommand code m.payload = some c)
    (member : c.needsMember = true → s.isMember = true) :
    s.message (BitVec.ofNat 8 code) m =
      (s.obey c).reply (BitVec.ofNat 8 code) .ok (s.answerData c) := by
  have through : ¬(c.needsMember && !s.isMember) = true := by
    intro both
    rw [Bool.and_eq_true, Bool.not_eq_true'] at both
    rw [member both.1] at both
    cases both.2
  rw [message_of_takes takes least most, parsed]
  exact if_neg through

end Sys2Proof.Machine
end

section
/-! PROOF. The bytes of answers, and the receiver byte by byte. -/

namespace Sys2Proof.Machine

/-- R182: a byte in BODY that completes the buffer. -/
theorem bodyByte_completes {s : State} {command checksum : Byte} {payload : List Byte}
    (buffer : s.svc.buffer = command :: payload) (length : s.svc.length = payload.length) :
    s.bodyByte checksum = s.takeMessage command payload checksum := by
  have whole : s.svc.length + 2 ≤ (s.svc.buffer ++ [checksum]).length := by
    rw [buffer, length, List.length_append, List.length_cons, List.length_singleton]
  have payload' : ((s.svc.buffer ++ [checksum]).drop 1).take s.svc.length = payload := by
    rw [buffer, length]
    exact List.take_left
  have command' : byteAt (s.svc.buffer ++ [checksum]) 0 = command := by rw [buffer]; rfl
  have checksum' : byteAt (s.svc.buffer ++ [checksum]) (s.svc.length + 1) = checksum := by
    rw [buffer, length, byteAt, List.getD_append_right _ _ _ _ (by simp)]
    simp
  unfold State.bodyByte
  dsimp only
  rw [if_pos whole, State.takeBuffer, payload', command', checksum']

theorem serviceByte_of_body {s : State} (body : s.svc.rx = .body) (b : Byte) :
    s.serviceByte b = s.bodyByte b := by
  unfold State.serviceByte
  rw [body]

/-- R182: a character without a framing error, in the running part. -/
theorem exec_serviceByte {s t : State} (ready : s.Ready) {b : Byte} (acts : s.serviceByte b = t)
    (quiet : t.raised = []) : exec (.serviceByteReceived b false) s = .next t :=
  exec_becomes ready (c := .serviceByteReceived b false) acts quiet

/-- R182: the expiry of the inter-byte timer. -/
theorem interByteEnd_of_running {s : State} (runs : s.svc.interByte.isSome = true) :
    s.interByteEnd = s.setSvc (if s.svc.rx = .length ∨ s.svc.rx = .body
      then { s.svc with rx := .hunt, length := 0, buffer := [], interByte := none }
      else { s.svc with interByte := none }) := by
  obtain ⟨t, timer⟩ := Option.isSome_iff_exists.mp runs
  unfold State.interByteEnd
  rw [timer]
  have partway : s.svc.rx.partway = true ↔ s.svc.rx = .length ∨ s.svc.rx = .body := by
    cases s.svc.rx <;> simp [RxState.partway]
  by_cases part : s.svc.rx = .length ∨ s.svc.rx = .body
  · rw [if_pos part]
    exact if_pos (partway.mpr part)
  · rw [if_neg part]
    exact if_neg (mt partway.mp part)

/-- Settles O57: the bytes of a value and of an answer, then the receiver by its state. -/
theorem receiverStates : Obligations.ReceiverStates := by
  refine ⟨fun w v => ⟨beBytes_length w v, ?_⟩, fun a layout => ?_, fun s ready =>
    ⟨fun b => ?_, fun busy b f => ?_, fun hunt b => ?_, fun length b short => ?_,
      fun length b long => ?_, fun body partly b => ?_,
      fun body command checksum payload buffer length bad => ?_,
      fun body command checksum payload buffer length good unknown => ?_,
      fun body code row payload checksum listed buffer length short => ?_, fun runs => ?_,
      fun busy => ?_⟩⟩
  · rw [beBytes_foldl, zero_mul, zero_add]
  · have sum := messageChecksum_sum a.command (a.payload layout)
    refine ⟨byteOf a.status.code, messageChecksum a.command (a.payload layout), a.data.bytes layout,
      rfl, ?_, ?_, ?_, ?_, answerData_bytes layout, ?_⟩
    · rw [statusByte_toNat]
      cases a.status <;> rfl
    · rw [Answer.payload, List.length_cons, List.map_cons, List.sum_cons] at sum
      rw [← sum]
      congr 1
      rw [Answer.payload]
      ring
    · exact Nat.succ_le_succ (answerData_length a.data layout)
    · intro none
      rw [none]
      rfl
    · intro cause count data
      rw [data]
      cases cause <;> rfl
  · exact exec_becomes ready (c := .serviceByteReceived b true) rfl ready.2
  · refine exec_becomes ready (c := .serviceByteReceived b f) ?_ ready.2
    cases f with
    | true => rfl
    | false =>
      show s.serviceByte b = s
      unfold State.serviceByte
      rw [busy]
  · have acts : s.serviceByte b = if b = 0xA5#8 then s.setSvc { s.svc with rx := .length } else s := by
      unfold State.serviceByte
      rw [hunt]
    refine exec_serviceByte ready acts ?_
    split
    · exact ready.2
    · exact ready.2
  · refine exec_serviceByte ready ?_ ready.2
    unfold State.serviceByte
    rw [length]
    exact if_pos short
  · refine exec_serviceByte ready ?_ ready.2
    unfold State.serviceByte
    rw [length]
    exact if_neg (Nat.not_le.mpr long)
  · refine exec_serviceByte ready ((serviceByte_of_body body b).trans (if_neg ?_)) ready.2
    rw [List.length_append, List.length_singleton]
    exact Nat.not_le.mpr partly
  · refine exec_serviceByte ready ((serviceByte_of_body body _).trans ?_) ready.2
    rw [bodyByte_completes buffer length, takeMessage_of_bad bad, ServiceLine.answering,
      BitVec.ofNat_toNat, BitVec.setWidth_eq]
    rfl
  · refine exec_serviceByte ready ((serviceByte_of_body body _).trans ?_) ready.2
    rw [bodyByte_completes buffer length, takeMessage_of_good good, takeCommand_of_unknown unknown,
      ServiceLine.answering, BitVec.ofNat_toNat, BitVec.setWidth_eq]
    rfl
  · have whole := (effect_row listed { payload := payload, checksum := checksum } s).1
    rw [message_of_open (by rw [body]; exact nofun) short] at whole
    have byte : effect (.serviceByteReceived checksum false) s = _ :=
      (serviceByte_of_body body checksum).trans (bodyByte_completes buffer length)
    rw [exec_of_running ready.1, exec_of_running ready.1, whole, byte]
  · exact exec_becomes ready (c := .interByteTimerExpiry) (interByteEnd_of_running runs) ready.2
  · exact exec_becomes ready (c := .answerSent) (if_pos busy) ready.2

end Sys2Proof.Machine
end

section
/-! PROOF. The thirteen commands: answered, obeyed or refused. -/

namespace Sys2Proof.Machine

/-- R183: a row of the Service Line that changes the receiver and the answer alone. -/
theorem exec_row {s t : State} {code : Nat} {row : ServiceMessage → Instr}
    (listed : (code, row) ∈ serviceRows) {m : ServiceMessage} (ready : s.Ready)
    (acts : s.message (BitVec.ofNat 8 code) m = t) (quiet : t.raised = []) :
    exec (row m) s = .next t :=
  exec_becomes ready ((effect_row listed m s).1.trans acts) quiet

/-- R187: SETPOINT SET and PARK need MEMBER. -/
theorem parse_needsMember {code : Nat} {payload : List Byte} {c : ServiceCommand}
    (parsed : parseCommand code payload = some c) (which : code = 5 ∨ code = 12) :
    c.needsMember = true := by
  rcases which with rfl | rfl
  · have parsed : parseSetpoint payload = some c := parsed
    unfold parseSetpoint at parsed
    split at parsed
    · cases parsed
    · split at parsed <;> cases parsed
      rfl
  · have parsed : parsePark payload = some c := parsed
    unfold parsePark at parsed
    split at parsed
    · cases parsed
    · split at parsed <;> cases parsed
      rfl

/-- Settles O60. -/
theorem commandsAreRefused : Obligations.CommandsAreRefused := by
  intro s code row m listed ready
  obtain ⟨-, least, most⟩ := effect_row listed m s
  refine ⟨fun busy => ?_, fun free short bad => ?_, fun free short good station apart apart' => ?_,
    fun takes unparsed => ?_, fun takes parsed which outside => ?_⟩
  · exact exec_row listed ready (message_of_busy busy _ m) ready.2
  · refine exec_row listed ready ((message_of_open free short _).trans ?_) ready.2
    rw [takeMessage_of_bad bad, reply_eq]
  · refine exec_row listed ready ((message_of_open free short _).trans ?_) ready.2
    have stops : (s.mbr.station.notReady && !alwaysReady code) = true := by
      have closed : alwaysReady code = false :=
        Bool.eq_false_iff.mpr fun always => ((alwaysReady_iff code).mp always).elim apart apart'
      rw [closed]
      rcases station with here | here <;> rw [here] <;> rfl
    rw [takeMessage_of_good good, takeCommand_of_known least most, if_pos stops, reply_eq]
  · refine exec_row listed ready ((message_of_takes takes least most).trans ?_) ready.2
    rw [unparsed, reply_eq]
  · refine exec_row listed ready ((message_of_takes takes least most).trans ?_) ready.2
    obtain ⟨c, some⟩ := Option.ne_none_iff_exists'.mp parsed
    have needs := parse_needsMember some which
    have stops : (c.needsMember && !s.isMember) = true := by
      rw [needs, Bool.eq_false_iff.mpr (mt (isMember_iff s).mp outside)]
      rfl
    rw [some]
    exact if_pos stops

/-- R183: the row of an obeyed command. -/
theorem exec_obeyed {s t : State} {code : Nat} {row : ServiceMessage → Instr}
    (listed : (code, row) ∈ serviceRows) {m : ServiceMessage} (takes : s.Takes code m)
    {c : ServiceCommand} (parsed : parseCommand code m.payload = some c)
    (member : c.needsMember = true → s.mbr.station = .member)
    (acts : (s.obey c).setSvc ((s.obey c).svc.answering (s.obey c).clock code .ok
      (s.answerData c)) = t) (quiet : t.raised = []) : exec (row m) s = .next t := by
  obtain ⟨-, least, most⟩ := effect_row listed m s
  refine exec_row listed takes.1 ((message_obeyed takes least most parsed fun needs =>
    (isMember_iff s).mpr (member needs)).trans ?_) quiet
  rw [reply_eq, acts]

theorem parse_of_plain {payload : List Byte} (empty : payload = []) (c : ServiceCommand) :
    plainCommand payload c = some c := by
  rw [empty]
  rfl

/-- R186: the mask of four bytes. -/
theorem mask_of_bytes (a b c d : Byte) :
    BitVec.ofNat 32 (be16 a b * 65536 + be16 c d) = a ++ b ++ c ++ d := by
  apply BitVec.eq_of_toNat_eq
  rw [BitVec.toNat_append, BitVec.toNat_append, BitVec.toNat_append, BitVec.toNat_ofNat,
    ← Nat.shiftLeft_add_eq_or_of_lt d.isLt, ← Nat.shiftLeft_add_eq_or_of_lt c.isLt,
    ← Nat.shiftLeft_add_eq_or_of_lt b.isLt]
  have := a.isLt
  have := b.isLt
  have := c.isLt
  have := d.isLt
  simp only [Nat.shiftLeft_eq, be16]
  omega

/-- Settles O58. -/
theorem commandsAnswer : Obligations.CommandsAnswer := by
  refine ⟨fun s m => ⟨fun takes empty => ?_, fun place takes payload within => ?_,
      fun takes empty => ?_, fun takes empty => ?_, fun takes empty => ?_⟩,
    fun s m => ⟨fun hi lo code mode takes member payload least most named => ?_,
      fun b takes payload least most => ?_, fun takes empty => ?_, fun takes empty => ?_,
      fun takes empty => ?_, fun depth hi lo d takes member payload named most => ?_,
      fun a b c d takes payload => ?_⟩⟩
  · exact exec_obeyed (row := .status) (by simp [serviceRows]) takes (parse_of_plain empty _) nofun
      rfl takes.1.2
  · have parsed : parseCommand 2 m.payload = some (.entry place.toNat) := by
      rw [payload]
      exact if_pos ⟨rfl, within⟩
    have shown : s.stb.place place.toNat =
        if place.toNat = 0 then s.stb.self else s.stb.order[place.toNat - 1]? := by
      cases place.toNat <;> rfl
    refine exec_obeyed (row := .entry) (by simp [serviceRows]) takes parsed nofun ?_ takes.1.2
    rw [← shown]
    rfl
  · exact exec_obeyed (row := .capacity) (by simp [serviceRows]) takes (parse_of_plain empty _) nofun
      rfl takes.1.2
  · exact exec_obeyed (row := .setpointRead) (by simp [serviceRows]) takes (parse_of_plain empty _)
      nofun rfl takes.1.2
  · exact exec_obeyed (row := .counters) (by simp [serviceRows]) takes (parse_of_plain empty _) nofun
      rfl takes.1.2
  · have parsed : parseCommand 5 m.payload = some (.setpointSet (be16 hi lo) mode) := by
      rw [payload]
      show parseSetpoint [hi, lo, code] = _
      unfold parseSetpoint
      rw [show byteAt [hi, lo, code] 2 = code from rfl, named]
      exact if_pos ⟨rfl, least, most⟩
    exact exec_obeyed (row := .setpointSet) (by simp [serviceRows]) takes parsed (fun _ => member)
      rfl takes.1.2
  · have parsed : parseCommand 6 m.payload = some (.offsetSet (signed8 b)) := by
      rw [payload]
      exact if_pos ⟨rfl, least, most⟩
    exact exec_obeyed (row := .offsetSet) (by simp [serviceRows]) takes parsed nofun rfl takes.1.2
  · have data : s.answerData .events =
        .events (min 4 s.svc.fifo.length) s.svc.lost (s.svc.fifo.take 4) := by
      rw [← List.length_take]
      rfl
    refine exec_obeyed (row := .events) (by simp [serviceRows]) takes (parse_of_plain empty _) nofun
      ?_ takes.1.2
    rw [data]
    rfl
  · exact exec_obeyed (row := .clearCounters) (by simp [serviceRows]) takes (parse_of_plain empty _)
      nofun rfl takes.1.2
  · exact exec_obeyed (row := .cause) (by simp [serviceRows]) takes (parse_of_plain empty _) nofun
      rfl takes.1.2
  · have parsed : parseCommand 12 m.payload = some (.park d (be16 hi lo)) := by
      rw [payload]
      show parsePark [depth, hi, lo] = _
      unfold parsePark
      rw [show byteAt [depth, hi, lo] 0 = depth from rfl, named]
      exact if_pos ⟨rfl, most⟩
    exact exec_obeyed (row := .park) (by simp [serviceRows]) takes parsed (fun _ => member)
      rfl takes.1.2
  · have parsed : parseCommand 13 m.payload = some (.mask (a ++ b ++ c ++ d)) := by
      rw [payload, ← mask_of_bytes]
      rfl
    exact exec_obeyed (row := .mask) (by simp [serviceRows]) takes parsed nofun rfl takes.1.2

end Sys2Proof.Machine
end

section
/-! PROOF. CLEAR_FAULT. -/

namespace Sys2Proof.Machine

/-- R163: the clear before the damper homes. -/
def State.unfaulted (s : State) : State :=
  if s.dcc.fan.condition = .fault then (s.changeDrives Drives.clearLatches).blowerReport
  else s.changeDrives Drives.clearLatches

/-- R163: what the clear of the latches leaves, and what it makes of the blower and the damper. -/
structure Unfaulted (s t : State) : Prop where
  fan : ∃ stall run, t.dcc.fan = { s.dcc.fan with
    faultLatch := false, stallCount := 0, stallTimer := stall, goodRunTimer := run
    condition := if s.dcc.fan.condition = .fault then .running else s.dcc.fan.condition }
  damper : t.dcc.damper = { s.dcc.damper with faultLatch := false }
  csr : t.csr = s.csr
  lnk : t.lnk = s.lnk
  mbr : t.mbr = s.mbr
  sup : t.sup = s.sup
  cfg : t.cfg = s.cfg
  svc : t.svc = s.svc
  clock : t.clock = s.clock
  pending : t.pending = s.pending
  raised : t.raised = s.raised

theorem changeDrives_clearLatches (s : State) : Unfaulted s (s.changeDrives Drives.clearLatches) := by
  obtain ⟨stall, run, fan⟩ := changeDrives_fan s Drives.clearLatches
  have damper : (s.changeDrives Drives.clearLatches).dcc.damper =
      { s.dcc.damper with faultLatch := false } := rewatch_damper _ _ _
  exact ⟨⟨stall, run, fan⟩, damper, rfl, rfl, rfl, rfl, rfl, rfl, rfl, rfl, rfl⟩

theorem unfaulted_clears (s : State) : Unfaulted s s.unfaulted := by
  have latches := changeDrives_clearLatches s
  unfold State.unfaulted
  split
  next fault =>
    generalize s.changeDrives Drives.clearLatches = x at latches ⊢
    obtain ⟨stall, run, fan⟩ := latches.fan
    have running : x.dcc.fan.condition = .running := by
      rw [fan]
      exact if_pos fault
    rw [blowerReport_of_running running]
    have caps := recomputeCaps_caps x
    have notice := caps.notice
    obtain ⟨stall', run', fan', -⟩ := recomputeCaps_fan x
    refine ⟨⟨stall', run', ?_⟩, notice.damper.trans latches.damper, notice.csr.trans latches.csr,
      notice.lnk.trans latches.lnk, notice.mbr.trans latches.mbr, notice.sup.trans latches.sup,
      notice.cfg.trans latches.cfg, notice.svc.trans latches.svc, notice.clock.trans latches.clock,
      notice.pending.trans latches.pending, caps.raised.trans latches.raised⟩
    rw [fan', fan]
  next => exact latches

theorem clearFaults_eq (s : State) :
    s.clearFaults = s.unfaulted.setDcc { s.unfaulted.dcc with
      damper := if s.dcc.damper.faultLatch = true ∧ s.mbr.station.converts = true
        then s.unfaulted.dcc.damper.home s.clock else s.unfaulted.dcc.damper } := by
  have clears : s.clearFaults = if s.dcc.damper.faultLatch && s.unfaulted.mbr.station.converts
    then s.unfaulted.homeDamper else s.unfaulted := rfl
  rw [clears, (unfaulted_clears s).mbr, if_congr Bool.and_eq_true_iff rfl rfl]
  split
  · rw [← (unfaulted_clears s).clock]
    rfl
  · rfl

/-- Settles O59. -/
theorem clearFaultClears : Obligations.ClearFaultClears := by
  intro s m takes empty
  have clears := unfaulted_clears s
  have whole := clearFaults_eq s
  generalize s.unfaulted = x at clears whole
  have acts : (s.obey .clearFault).setSvc ((s.obey .clearFault).svc.answering
      (s.obey .clearFault).clock 11 .ok (s.answerData .clearFault)) =
        (x.setDcc { x.dcc with
          damper := if s.dcc.damper.faultLatch = true ∧ s.mbr.station.converts = true
            then x.dcc.damper.home s.clock else x.dcc.damper }).setSvc
          (s.svc.answering s.clock 11 .ok .none) := by
    show s.clearFaults.setSvc (s.clearFaults.svc.answering s.clearFaults.clock 11 .ok .none) = _
    rw [whole, State.setDcc_svc, State.setDcc_clock, clears.svc, clears.clock]
  refine ⟨_, exec_obeyed (row := .clearFault) (by simp [serviceRows]) takes
    (parse_of_plain empty _) nofun acts (clears.raised.trans takes.1.2), rfl, ?_⟩
  obtain ⟨stall, run, fan⟩ := clears.fan
  rw [State.setSvc_dcc, State.setDcc_dcc, fan, clears.damper]
  exact ⟨rfl, rfl, rfl, rfl, rfl, clears.csr, clears.lnk, clears.mbr, clears.sup, clears.cfg,
    clears.clock, clears.pending⟩

end Sys2Proof.Machine
end

section
/-! PROOF. The age tick. -/

namespace Sys2Proof.Machine

/-- R14: an entry that does not lapse keeps what counts of it. -/
theorem ticked_of_stays {e : Entry} (stays : e.lapses = false) :
    ∃ x, e.ticked = some x ∧ ∀ r, x.counts r = e.counts r := by
  unfold Entry.ticked
  rw [stays, if_neg Bool.false_ne_true]
  split
  · exact ⟨_, rfl, fun _ => rfl⟩
  · exact ⟨_, rfl, fun _ => rfl⟩

theorem sum_ticked_of_stay {es : List Entry} (stay : es.filter Entry.lapses = []) (r : Resource) :
    ((es.filterMap Entry.ticked).map (·.counts r)).sum = (es.map (·.counts r)).sum := by
  induction es with
  | nil => rfl
  | cons e es ih =>
    have stays : e.lapses = false := by
      cases lapses : e.lapses with
      | false => rfl
      | true =>
        rw [List.filter_cons_of_pos lapses] at stay
        cases stay
    rw [List.filter_cons_of_neg (Bool.eq_false_iff.mp stays)] at stay
    obtain ⟨x, ticked, counts⟩ := ticked_of_stays stays
    rw [List.filterMap_cons_some ticked, List.map_cons, List.map_cons, List.sum_cons, List.sum_cons,
      ih stay, counts]

/-- R14, R17: without a lapse the totals stand. -/
theorem total_ticked_of_stay {t : ShareTable} (stay : t.order.filter Entry.lapses = [])
    (timer : Timer) (r : Resource) : (t.ticked timer).total r = t.total r := by
  have self : ((t.self.map Entry.outdoorAged).toList.map fun e => e.committed.get r) =
      t.self.toList.map fun e => e.committed.get r := by cases t.self <;> rfl
  simp only [ShareTable.total, ShareTable.counted, ShareTable.ticked, List.map_append,
    List.sum_append, self, sum_present, sum_ticked_of_stay stay]

/-- R14: the table aged, and its timer restarted. -/
def State.aged (s : State) : State := s.setStb (s.stb.ticked (some (s.clock + Config.ageTick)))

/-- R14: an age tick, up to the notice. -/
theorem ageTick_of_running {s : State} (runs : s.stb.ageTimer.isSome = true) :
    s.ageTick = (((s.stb.order.filter Entry.lapses).map (·.address)).foldl State.raiseLapsed
      s.aged).tableChanged := by
  obtain ⟨t, timer⟩ := Option.isSome_iff_exists.mp runs
  unfold State.ageTick
  rw [timer]
  rfl

/-- R15: the lapses of a tick are events and counts. -/
theorem lapses_rest (as : List Nat) (s : State) :
    ∃ l raised, as.foldl State.raiseLapsed s = (s.setLnk l).setRaised raised := by
  induction as generalizing s with
  | nil => exact ⟨s.lnk, s.raised, rfl⟩
  | cons a as ih =>
    obtain ⟨l, raised, rest⟩ := ih (s.raiseLapsed a)
    refine ⟨l, raised, ?_⟩
    rw [List.foldl_cons, rest, State.raiseLapsed, bump_eq]
    rfl

/-- R14: the three rows of an entry at a tick. -/
theorem ticked_of_lapsing {e : Entry} (present : e.present = true) (old : 2 ≤ e.age) :
    e.ticked = if e.pinned then some e.absent else none := by
  have lapses : e.lapses = true := by
    rw [Entry.lapses, present, decide_eq_true (by omega)]
    rfl
  rw [Entry.ticked, if_pos lapses]

theorem ticked_of_young {e : Entry} (present : e.present = true) (young : e.age < 2) :
    e.ticked = some { e with age := e.age + 1, outdoor := e.outdoor.map .aged } := by
  have stays : ¬e.lapses = true := by
    rw [Entry.lapses, present, decide_eq_false (by omega)]
    exact Bool.false_ne_true
  rw [Entry.ticked, if_neg stays, if_pos present]

/-- R14: a tick without a lapse, while the flags agree. -/
theorem ageTick_of_stay {s : State} (runs : s.stb.ageTimer.isSome = true)
    (stay : s.stb.order.filter Entry.lapses = []) (agrees : s.OverdrawAgrees) :
    s.ageTick = s.aged := by
  rw [ageTick_of_running runs, stay]
  exact tableChanged_same (agrees_congr (s := s) (t := s.aged) rfl (total_ticked_of_stay stay _) (fun _ => rfl) agrees)

/-- R15, R19: a tick with one lapse, while no flag is set and they agree. -/
theorem ageTick_of_one {s : State} (runs : s.stb.ageTimer.isSome = true) {e : Entry}
    (one : s.stb.order.filter Entry.lapses = [e]) (agrees : s.OverdrawAgrees)
    (clear : s.cjg.overdraw = .all false) (counts : s.mbr.station.counts = true) :
    s.ageTick = (s.aged.setLnk
      { s.lnk with counters := s.lnk.counters.bump .peerLapses }).raise
        { block := .stb, slot := e.address } .peerLapsed (some e.address) none none := by
  have lapsed (x : State) (here : x.mbr.station.counts = true) : x.raiseLapsed e.address =
      (x.setLnk { x.lnk with counters := x.lnk.counters.bump .peerLapses }).raise
        { block := .stb, slot := e.address } .peerLapsed (some e.address) none none := by
    rw [State.raiseLapsed, bump_of_counts (by exact here)]
    rfl
  rw [ageTick_of_running runs, one, List.map_singleton, List.foldl_cons, List.foldl_nil,
    lapsed s.aged counts]
  exact tableChanged_same (agrees_of_fits clear fun r =>
    (total_ticked_le s.stb _ r).trans (fits_of_agrees agrees clear r))

/-- Settles O40. -/
theorem ageTickAges : Obligations.AgeTickAges := by
  refine ⟨fun e => ⟨fun present old free => ?_, fun present old pinned => ?_, ticked_of_young⟩,
    fun s ready runs => ⟨_, exec_of_running ready.1 .ageTickExpiry, ?_⟩⟩
  · rw [ticked_of_lapsing present old, free]
    rfl
  · rw [ticked_of_lapsing present old, if_pos pinned, Entry.absent, pinned]
  · have taken : effect .ageTickExpiry s = s.ageTick := rfl
    rw [taken]
    have stay (here : s.stb.order.filter Entry.lapses = []) (agrees : s.OverdrawAgrees) :
        s.ageTick.flush = s.aged := by
      rw [ageTick_of_stay runs here agrees, State.flush_of_nil (s := s.aged) ready.2]
    have lapse (e : Entry) (here : s.stb.order.filter Entry.lapses = [e])
        (agrees : s.OverdrawAgrees) (clear : s.cjg.overdraw = .all false)
        (counts : s.mbr.station.counts = true) :
        s.ageTick.flush.lnk = { s.lnk with counters := s.lnk.counters.bump .peerLapses } ∧
          s.ageTick.flush.svc =
            s.svc.post (s.event .peerLapsed (some e.address) none none) := by
      rw [ageTick_of_one runs here agrees clear counts, flush_raise]
      · exact ⟨rfl, rfl⟩
      · exact ready.2
    have whole := ageTick_of_running runs
    obtain ⟨l, raised, rest⟩ := lapses_rest ((s.stb.order.filter Entry.lapses).map (·.address))
      s.aged
    rw [rest] at whole
    have notice := tableChanged_notice ((s.aged.setLnk l).setRaised raised)
    have agrees := tableChanged_agrees ((s.aged.setLnk l).setRaised raised)
    rw [← whole] at notice agrees
    generalize s.ageTick = z at *
    refine ⟨?_, ?_, ?_, (flush_agrees z).mpr agrees, fun here agrees => ?_, lapse, notice.csr,
      notice.mbr, notice.sup, notice.cfg, notice.clock, notice.pending⟩
    · rw [State.flush_stb, notice.stb]
      rfl
    · rw [State.flush_stb, notice.stb]
      rfl
    · rw [State.flush_stb, notice.stb]
      rfl
    · rw [stay here agrees]
      exact ⟨rfl, rfl⟩

end Sys2Proof.Machine
end

section
/-! SUPPORT. A non-void own completion, and the parts of it that the statements name. -/

namespace Sys2Proof.Machine

/-- R82, R89: the link after a non-void own completion. -/
def State.ownLnk (s : State) (ack : Bool) : Link :=
  { s.lnk.endFrame with
    txVoid := 0, heard := if ack then .heard else .unheard
    counters := if s.mbr.station.counts then s.lnk.counters.bump .framesSent else s.lnk.counters }

/-- R111: the membership after it. -/
def State.ownMbr (s : State) : Membership :=
  { s.mbr with
    selfSilence := if s.mbr.station.drives then .running (s.clock + Config.selfSilenceTime)
                   else s.mbr.selfSilence }

theorem completeOwn_parts (s : State) (ack paced : Bool) :
    s.completeOwn ack paced =
      ((s.setLnk (s.ownLnk ack)).setMbr s.ownMbr).setTxq (s.txq.completed paced) :=
  completeOwn_eq s ack paced

theorem completed_of {s t : State} {ack : Bool} (lnk : t.lnk = s.ownLnk ack)
    (mbr : t.mbr = s.ownMbr) : s.Completed t ack := ⟨lnk, mbr⟩

theorem completeOwn_ownAddress (s : State) (ack paced : Bool) :
    (s.completeOwn ack paced).ownAddress = s.ownAddress := by
  rw [State.ownAddress, completeOwn_cfg, State.ownAddress]

theorem isMember_of_completed {s : State} (member : s.mbr.station = .member) (ack paced : Bool) :
    (s.completeOwn ack paced).isMember = true := by
  rw [isMember_iff, completeOwn_station, member]

theorem takesFrames_of_completed {s : State} (member : s.mbr.station = .member) (ack paced : Bool) :
    (s.completeOwn ack paced).mbr.station.takesFrames = true := by
  rw [completeOwn_station, member]
  rfl

/-- R73: the frame that a completion finds. -/
theorem sending_of_sends {s : State} {f : FrameBody} (sends : s.Sends f) : s.sending = some f :=
  (sending_of_transmitting sends.2.1).trans sends.2.2

end Sys2Proof.Machine
end

section
/-! PROOF. The completions of own SUPPLY, SETPOINT, JOIN, STATE and WAKE. -/

namespace Sys2Proof.Machine

/-- R50, R55: an own SUPPLY names records of its own. -/
theorem supplyDone_of_sends {s : State} {fallback : Bool} {values : Per (Option Nat)}
    (member : s.mbr.station = .member) (sends : s.Sends (.supply fallback values)) (ack : Bool) :
    s.supplyDone ack = ((s.completeOwn ack false).supplied s.ownAddress fallback
      values).tableChanged := by
  rw [State.supplyDone, sending_of_sends sends]
  dsimp only
  rw [if_pos (takesFrames_of_completed member ack false), completeOwn_ownAddress, applySupply_eq]

/-- R19, R189: a change of the records and its flags, its events entered, in a silent state. -/
theorem flush_of_records {s x z : State} {l : Link} {m : Membership} {q : TransmitQueue}
    {o : Per Bool} {raised : List Raised} (quiet : s.raised = [])
    (records : x = ((((s.setLnk l).setMbr m).setTxq q).setCsr x.csr).setRaised x.raised)
    (flags : z = (x.setCjg { x.cjg with overdraw := o }).setRaised raised) :
    ∃ c j v n, z.flush = ((((((s.setLnk l).setMbr m).setTxq q).setCsr c).setCjg j).setSvc
      v).setFreeCount n := by
  have ends : z.flush = ((z.setSvc z.flush.svc).setFreeCount z.flush.freeCount).setRaised [] := rfl
  refine ⟨x.csr, z.flush.cjg, z.flush.svc, z.flush.freeCount, ends.trans ?_⟩
  have cjg : z.flush.cjg = { x.cjg with overdraw := o } := by rw [State.flush_cjg, flags]; rfl
  rw [cjg, flags]
  generalize State.svc _ = v, State.freeCount _ = n
  generalize x.csr = c, x.raised = r at records ⊢
  rw [records, ← quiet]
  rfl

/-- R41, R50, R55: what an own SUPPLY leaves, where its notice may begin a flag or not. -/
theorem ownSupply_completes {s : State} {fallback : Bool} {values : Per (Option Nat)}
    (member : s.mbr.station = .member) (sends : s.Sends (.supply fallback values)) (ack : Bool) :
    ∃ t, exec (.ownSupplyCompletion ack) s = .next t ∧ s.Completed t ack ∧
      t.csr.setpoint = s.csr.setpoint ∧ t.OverdrawAgrees ∧
      s.Reports t (s.lapseEvents s.ownAddress fallback values ++ s.overdrawEvents t) ∧
      t.cjg = { s.cjg with overdraw := t.cjg.overdraw, releaseTarget := t.cjg.releaseTarget } ∧
      t.zlp = { s.zlp with interlock := t.zlp.interlock } ∧
      t.dcc.damper = s.dcc.damper ∧ t.dcc.fan.condition = s.dcc.fan.condition ∧
      t.txq = { s.txq.completed false with intents := t.txq.intents
                                           replacements := t.txq.replacements } ∧
      (∀ r, t.cjg.overdraw.get r = s.cjg.overdraw.get r ∨ t.cjg.overdraw.get r = false →
        t.cjg.releaseTarget.get r = s.cjg.releaseTarget.get r) ∧
      ((∀ r, t.cjg.overdraw.get r = s.cjg.overdraw.get r ∨ t.cjg.overdraw.get r = false) →
        t = ((((((s.setLnk t.lnk).setMbr t.mbr).setTxq (s.txq.completed false)).setCsr
          t.csr).setCjg t.cjg).setSvc t.svc).setFreeCount t.freeCount) ∧
      (∀ r, t.csr.capacity.get r = match values.get r with
        | none => s.csr.capacity.get r
        | some v =>
          { value := v, source := s.ownAddress
            state := if fallback then .lapsed else .fresh
            timer := if fallback then .stopped else .running (s.clock + Config.supplyTime)
            adoption := false }) ∧
      t.stb = { s.stb with self := t.stb.self } ∧ s.SelfStands t ∧ t.sup = s.sup ∧
      t.cfg = s.cfg ∧ t.clock = s.clock ∧ t.pending = s.pending := by
  have acts : effect (.ownSupplyCompletion ack) s = _ := supplyDone_of_sends member sends ack
  have runs := exec_of_running sends.1.1 (.ownSupplyCompletion ack)
  rw [acts, completeOwn_parts] at runs
  have only := supplied_recordsOnly (((s.setLnk (s.ownLnk ack)).setMbr s.ownMbr).setTxq
    (s.txq.completed false)) s.ownAddress fallback values
  have capacity := supplied_capacity (((s.setLnk (s.ownLnk ack)).setMbr s.ownMbr).setTxq
    (s.txq.completed false)) s.ownAddress fallback values
  have setpoint := supplied_setpoint (((s.setLnk (s.ownLnk ack)).setMbr s.ownMbr).setTxq
    (s.txq.completed false)) s.ownAddress fallback values
  have records := supplied_records (((s.setLnk (s.ownLnk ack)).setMbr s.ownMbr).setTxq
    (s.txq.completed false)) s.ownAddress fallback values
  generalize State.supplied _ _ _ _ = x at only capacity setpoint records runs
  have rest := only.rest
  have cjg : x.cjg = s.cjg := by rw [rest]; rfl
  have stb : x.stb = s.stb := by rw [rest]; rfl
  have table := tableChanged_table x
  have notice := table.notice
  have told := tableChanged_records x
  have agrees := tableChanged_agrees x
  have stands (r : Resource) (quiet : x.tableChanged.cjg.overdraw.get r = s.cjg.overdraw.get r ∨
      x.tableChanged.cjg.overdraw.get r = false) : x.NoBegin r := by
    rw [← cjg] at quiet
    exact noBegin_of_overdraw quiet
  have target (r : Resource) (quiet : x.NoBegin r) :
      x.tableChanged.cjg.releaseTarget.get r = s.cjg.releaseTarget.get r := by
    rw [tableChanged_target quiet, cjg]
  have flags (quiet : ∀ r, x.NoBegin r) := tableChanged_flagsOnly_of_noBegin quiet
  have selfStands := table.self
  have request := table.request
  have veto := table.veto
  have zlp := table.zlp
  have txq := table.txq
  clear table
  generalize x.tableChanged = z at *
  refine ⟨z.flush, runs, completed_of ?_ ?_, ?_, (flush_agrees z).mpr agrees, reports_of ?_ ?_, ?_, ?_, ?_, ?_, ?_,
    fun r quiet => ?_, fun quiet => ?_, fun r => ?_, ?_, ?_, ?_, ?_, ?_, ?_⟩
  · rw [State.flush_lnk, notice.lnk, rest]; rfl
  · rw [State.flush_mbr, notice.mbr, rest]; rfl
  · rw [State.flush_csr, notice.csr, setpoint]; rfl
  · rw [notice.svc, rest]; rfl
  · rw [told, records, records_of_quiet (by exact sends.1.2), List.nil_append]
    exact congrArg _ (overdrawEvents_congr (s := s) (by rw [rest]; rfl) (by rw [cjg]) z)
  · rw [State.flush_cjg]
    rw [cjg] at request veto
    generalize z.cjg = j at request veto
    cases j
    cases request
    cases veto
    rfl
  · rw [State.flush_zlp, zlp, rest]; rfl
  · rw [State.flush_dcc, notice.damper, rest]; rfl
  · rw [State.flush_dcc, notice.condition, rest]; rfl
  · rw [State.flush_txq, txq, rest]; rfl
  · exact target r (stands r quiet)
  · obtain ⟨overdraw, raised, moved⟩ : ∃ o l,
        z = (x.setCjg { x.cjg with overdraw := o }).setRaised l :=
      ⟨_, _, flags fun r => stands r (quiet r)⟩
    obtain ⟨c, j, v, n, whole⟩ := flush_of_records sends.1.2 rest moved
    rw [whole]
    rfl
  · rw [State.flush_csr, notice.csr, capacity]
    unfold CapacityRecord.supplied
    cases values.get r <;> rfl
  · rw [State.flush_stb, notice.stb, stb]
  · rw [State.SelfStands, State.flush_stb, ← stb]
    exact selfStands
  · rw [State.flush_sup, notice.sup, rest]; rfl
  · rw [State.flush_cfg, notice.cfg, rest]; rfl
  · rw [State.flush_clock, notice.clock, rest]; rfl
  · rw [State.flush_pending, notice.pending, rest]; rfl

/-- Settles O39. -/
theorem otherOwnFramesComplete : Obligations.OtherOwnFramesComplete := by
  refine ⟨fun s ack member => ⟨fun fallback values sends => ownSupply_completes member sends ack,
    fun value mode epoch origin p sends record newer => ?_⟩,
    fun s ack => ⟨fun w sends joining wire => ?_, fun c sends wire => ?_, fun sends => ?_⟩⟩
  · have acts : effect (.ownSetpointCompletion ack) s =
        (s.completeOwn ack false).adoptSetpoint value mode epoch origin := by
      show s.setpointDone ack = _
      rw [State.setpointDone, sending_of_sends sends]
      dsimp only
      rw [if_pos (takesFrames_of_completed member ack false), offerSetpoint_of_newer ?_ newer]
      rw [completeOwn_parts]
      exact record
    refine ⟨_, exec_of_running sends.1.1 _, ?_⟩
    rw [acts, completeOwn_parts, adoptSetpoint_flush (by exact sends.1.2)]
    exact ⟨⟨rfl, rfl⟩, rfl⟩
  · have acts : effect (.ownJoinCompletion ack) s = ((s.setLnk (s.ownLnk ack)).setMbr
        { s.ownMbr with censusTimer := some (s.clock + Config.censusTime) }).setTxq
          { s.txq.completed false with
            stateTimer := if s.txq.stateTimer.isNone then some (s.clock + Config.stateTime)
                          else s.txq.stateTimer } := by
      show s.joinDone ack = _
      rw [State.joinDone, sending_of_sends sends]
      dsimp only
      have census : (s.completeOwn ack false).startCensus = ((s.setLnk (s.ownLnk ack)).setMbr
          { s.ownMbr with censusTimer := some (s.clock + Config.censusTime) }).setTxq
            (s.txq.completed false) := by
        rw [completeOwn_parts]
        exact if_pos joining
      rw [wire, census]
      have timer : (s.txq.completed false).stateTimer = s.txq.stateTimer := by
        rw [TransmitQueue.completed_rest]
      cases starts : s.txq.stateTimer.isNone with
      | true =>
        rw [if_pos rfl]
        exact if_pos (by rw [State.setTxq_txq, timer, starts]; rfl)
      | false =>
        rw [if_neg Bool.false_ne_true, ← timer]
        exact if_neg (by rw [State.setTxq_txq, timer, starts]; exact Bool.false_ne_true)
    have silence : s.ownMbr.selfSilence = .running (s.clock + Config.selfSilenceTime) :=
      if_pos (by rw [joining]; rfl)
    refine ⟨_, exec_becomes sends.1 acts sends.1.2, ?_, rfl, rfl, rfl⟩
    rw [← silence]
    rfl
  · have acts : effect (.ownStateCompletion ack) s = ((s.setLnk (s.ownLnk ack)).setMbr
        s.ownMbr).setTxq { s.txq.completed false with
          stateTimer := some (s.clock + Config.stateTime) } := by
      show s.stateDone ack = _
      rw [State.stateDone, sending_of_sends sends]
      dsimp only
      rw [wire, completeOwn_parts]
      rfl
    exact ⟨_, exec_becomes sends.1 acts sends.1.2, ⟨rfl, rfl⟩, rfl⟩
  · have acts : effect (.ownWakeCompletion ack) s = ((s.setLnk (s.ownLnk ack)).setMbr
        s.ownMbr).setTxq (s.txq.completed false) := by
      show s.wakeDone ack = _
      rw [State.wakeDone, sending_of_sends sends]
      exact completeOwn_parts s ack false
    exact ⟨_, exec_becomes sends.1 acts sends.1.2, ⟨rfl, rfl⟩, rfl⟩

end Sys2Proof.Machine
end

section
/-! SUPPORT. An airflow interlock once found standing in the notices of a change stands at their end: they only lower the blower's cap (R42, R141, R142). -/

namespace Sys2Proof.Machine

/-- R142: there is an image, and the interlock evaluates as standing. -/
def State.Choked (s : State) : Prop :=
  ∃ img, s.cfg.image = some img ∧ ∀ e, s.stb.self = some e → s.interlockNow img e = true

/-- R141: a lower amount of the blower's release target lowers its cap. -/
theorem blowerCap_le {s t : State} {img : Image} {e e' : Entry}
    (committed : e'.committed = e.committed) (duty : t.zlp.blowerDuty = s.zlp.blowerDuty)
    (lower : ∀ x, belowTarget t.cjg.releaseTarget.power x ≤ belowTarget s.cjg.releaseTarget.power x) :
    t.blowerCap img e' ≤ s.blowerCap img e := by
  unfold State.blowerCap
  rw [committed, duty]
  exact min_le_min_right _ (min_le_min_left _
    (Nat.div_le_div_right (Nat.mul_le_mul_right _ (lower e.committed.power))))

/-- R141, R142: image, own draw, blower duty and condition standing, a lower release target keeps the interlock. -/
theorem choked_mono {s t : State} (cfg : t.cfg = s.cfg)
    (drawn : t.stb.self.map (·.committed) = s.stb.self.map (·.committed))
    (duty : t.zlp.blowerDuty = s.zlp.blowerDuty)
    (condition : t.dcc.fan.condition = s.dcc.fan.condition)
    (lower : ∀ x, belowTarget t.cjg.releaseTarget.power x ≤ belowTarget s.cjg.releaseTarget.power x) :
    s.Choked → t.Choked := by
  rintro ⟨img, image, chokes⟩
  refine ⟨img, cfg ▸ image, fun e' self' => ?_⟩
  rw [self'] at drawn
  obtain ⟨e, self, same⟩ := Option.map_eq_some_iff.mp drawn.symm
  have chokes := chokes e self
  have cap := blowerCap_le (img := img) same.symm duty lower
  rw [State.interlockNow, Bool.or_eq_true, decide_eq_true_iff, decide_eq_true_iff] at chokes ⊢
  rw [condition]
  exact chokes.imp_left cap.trans_lt

/-- `t` comes from `s` by changes that touch the self entry only where the interlock stands, and leave it standing. -/
structure Chokes (s t : State) : Prop where
  self : t.stb.self = s.stb.self ∨ t.Choked
  stands : s.Choked → t.Choked

theorem Chokes.refl (s : State) : Chokes s s := ⟨.inl rfl, id⟩

theorem Chokes.trans {s t u : State} (h : Chokes s t) (k : Chokes t u) : Chokes s u := by
  refine ⟨?_, k.stands ∘ h.stands⟩
  rcases h.self with same | choked
  · exact k.self.imp_left (·.trans same)
  · exact .inr (k.stands choked)

theorem Chokes.ite {s t u : State} {p : Prop} [Decidable p] (h : Chokes s t) (k : Chokes s u) :
    Chokes s (if p then t else u) := by split <;> assumption

/-- A change outside self entry, image, blower and release targets. -/
theorem Chokes.of_same {s t : State} (stb : t.stb = s.stb) (cfg : t.cfg = s.cfg)
    (zlp : t.zlp = s.zlp) (dcc : t.dcc = s.dcc)
    (targets : t.cjg.releaseTarget = s.cjg.releaseTarget) : Chokes s t :=
  ⟨.inl (by rw [stb]), choked_mono cfg (by rw [stb]) (by rw [zlp]) (by rw [dcc])
    fun x => by rw [targets]⟩

theorem recomputeCaps_choked (s : State) : s.Choked → s.recomputeCaps.Choked := by
  have caps := recomputeCaps_caps s
  refine choked_mono caps.notice.cfg (SelfStands.drawn caps.self) ?_ caps.notice.condition fun x => ?_
  · rw [caps.zlp]
  · rw [caps.cjg]

theorem recomputeCaps_chokes (s : State) : Chokes s s.recomputeCaps := by
  refine ⟨?_, recomputeCaps_choked s⟩
  cases image : s.cfg.image with
  | none => exact .inl (by rw [recomputeCaps_of_no_image image])
  | some img =>
    cases self : s.stb.self with
    | none => exact .inl (by rw [recomputeCaps_of_no_self self, self])
    | some e =>
      obtain ⟨-, after⟩ := recomputeCaps_interlock image self
      cases now : s.interlockNow img e with
      | false => exact .inl (by rw [after, now]; rfl)
      | true =>
        refine .inr (recomputeCaps_choked s ⟨img, image, fun e' self' => ?_⟩)
        rw [self] at self'
        cases self'
        exact now

/-- R43: a target that is taken lowers what the blower may run. -/
theorem belowTarget_of_taken {held : Option Nat} {t : Nat} (taken : takesTarget held t = true)
    (x : Nat) : belowTarget (some t) x ≤ belowTarget held x := by
  cases held with
  | none => exact Nat.min_le_left x t
  | some h =>
    have below : t < h := of_decide_eq_true taken
    exact min_le_min_left x below.le

theorem setTarget_chokes {s : State} {r : Resource} {t : Nat}
    (taken : takesTarget (s.cjg.releaseTarget.get r) t = true) : Chokes s (s.setTarget r (some t)) := by
  refine ⟨.inl rfl, choked_mono rfl rfl rfl rfl fun x => ?_⟩
  cases r with
  | cool => exact Nat.le_refl _
  | heat => exact Nat.le_refl _
  | power => exact belowTarget_of_taken taken x

theorem offerTarget_chokes (s : State) (r : Resource) (t : Nat) : Chokes s (s.offerTarget r t) := by
  unfold State.offerTarget
  split
  next taken =>
    exact ((setTarget_chokes taken).trans (recomputeCaps_chokes _)).trans
      (.of_same rfl rfl rfl rfl rfl)
  next => exact .refl s

theorem computeCut_chokes (s : State) (r : Resource) : Chokes s (s.computeCut r) := by
  unfold State.computeCut
  split
  · exact .refl s
  · exact (offerTarget_chokes s r _).ite (.refl s)

theorem evalOverdraw_chokes (s : State) (r : Resource) : Chokes s (s.evalOverdraw r) := by
  have flagged (b : Bool) (o : Origin) (k : EventKind) (v : Option Nat) :
      Chokes s ((s.setOverdraw r b).raise o k none (some r) v) := .of_same rfl rfl rfl rfl rfl
  unfold State.evalOverdraw
  dsimp only
  split
  · exact (Chokes.refl s).ite (((flagged _ _ _ _).trans (computeCut_chokes _ r)).ite (flagged _ _ _ _))
  · exact (flagged _ _ _ _).ite (.refl s)

theorem tableChanged_chokes (s : State) : Chokes s s.tableChanged :=
  ((evalOverdraw_chokes s .cool).trans (evalOverdraw_chokes _ .heat)).trans
    (evalOverdraw_chokes _ .power)

/-- R142: the self entry after the notices of a change: as it was where the interlock is clear, and without valves where it stands. -/
theorem selfChanged_self {s : State} {e : Entry} (self : s.stb.self = some e) :
    (s.selfChanged.zlp.interlock = false → s.selfChanged.stb.self = some e) ∧
      (s.selfChanged.zlp.interlock = true → s.cfg.image.isSome = true →
        s.selfChanged.stb.self = some e.withoutValves) ∧
      (s.cfg.image = none → s.selfChanged.stb.self = some e) := by
  have table := tableChanged_table s
  have chokes := tableChanged_chokes s
  have stands := table.self
  have cfg := table.notice.cfg
  unfold State.selfChanged
  generalize s.tableChanged = w at stands chokes cfg ⊢
  rw [State.SelfStands, self] at stands
  have calm (unchoked : ¬w.Choked) : w.stb.self = some e :=
    (chokes.self.resolve_right unchoked).trans self
  cases image : s.cfg.image with
  | none =>
    have bare : ¬w.Choked := by
      rintro ⟨img, image', -⟩
      rw [cfg, image] at image'
      cases image'
    rw [recomputeCaps_of_no_image (by rw [cfg, image])]
    exact ⟨fun _ => calm bare, nofun, fun _ => calm bare⟩
  | some img =>
    obtain ⟨ew, selfW, same⟩ : ∃ ew, w.stb.self = some ew ∧ ew.withoutValves = e.withoutValves := by
      rcases stands with same | shut
      · exact ⟨e, same, rfl⟩
      · exact ⟨e.withoutValves, shut, rfl⟩
    obtain ⟨interlock, after⟩ := recomputeCaps_interlock (by rw [cfg, image]) selfW
    rw [interlock, after]
    refine ⟨fun clear => ?_, fun stood _ => ?_, nofun⟩
    · have unchoked : ¬w.Choked := by
        rintro ⟨img', image', chokes⟩
        rw [cfg, image] at image'
        cases image'
        rw [chokes ew selfW] at clear
        cases clear
      rw [clear]
      exact selfW.symm.trans (calm unchoked)
    · rw [stood, ← same]
      rfl

end Sys2Proof.Machine
end

section
/-! SUPPORT. The end of an own REQUEST or RELEASE: the notices of the self entry, and the guard of the POWER floor (R168). -/

namespace Sys2Proof.Machine

/-- R19, R168: the notices of an own draw that changed, and the forced RELEASE to the floor while SHED stands. -/
def State.drawChanged (s : State) (r : Resource) : State :=
  if r = .power then s.selfChanged.shedGuard else s.selfChanged

theorem shedGuard_caps (s : State) : CapsOnly s s.shedGuard := by
  unfold State.shedGuard
  split
  · split
    · exact forceRelease_caps s _ _
    · exact .refl s
  · exact .refl s

theorem shedGuard_eq (s : State) : s.shedGuard = s.setTxq s.shedGuard.txq := by
  unfold State.shedGuard
  split
  · split
    · exact forceRelease_eq s _ _
    · rfl
  · rfl

/-- R168: the guard moves the queue alone. -/
theorem drawChanged_eq (s : State) (r : Resource) : ∃ q, s.drawChanged r = s.selfChanged.setTxq q := by
  unfold State.drawChanged
  generalize s.selfChanged = x
  split
  · exact ⟨_, shedGuard_eq x⟩
  · exact ⟨x.txq, rfl⟩

theorem drawChanged_table (s : State) (r : Resource) : TableNotice s (s.drawChanged r) := by
  unfold State.drawChanged
  split
  · exact (selfChanged_table s).trans (shedGuard_caps _).table
  · exact selfChanged_table s

theorem drawChanged_agrees (s : State) (r : Resource) : (s.drawChanged r).OverdrawAgrees := by
  obtain ⟨q, rest⟩ := drawChanged_eq s r
  have agrees := selfChanged_agrees s
  rw [rest]
  generalize s.selfChanged = x at agrees ⊢
  exact agrees

theorem drawChanged_raised {s : State} (agrees : s.OverdrawAgrees) (r : Resource) :
    (s.drawChanged r).raised = s.raised := by
  obtain ⟨q, rest⟩ := drawChanged_eq s r
  rw [rest, State.setTxq_raised, selfChanged_raised agrees]

/-- R142: the self entry at the end. -/
theorem drawChanged_self {s : State} {e : Entry} (self : s.stb.self = some e) (r : Resource) :
    ((s.drawChanged r).zlp.interlock = false → (s.drawChanged r).stb.self = some e) ∧
      ((s.drawChanged r).zlp.interlock = true → s.cfg.image.isSome = true →
        (s.drawChanged r).stb.self = some e.withoutValves) ∧
      (s.cfg.image = none → (s.drawChanged r).stb.self = some e) := by
  obtain ⟨q, rest⟩ := drawChanged_eq s r
  rw [rest, State.setTxq_zlp, State.setTxq_stb]
  exact selfChanged_self self

/-- R41, R45: where no flag begins the targets stand. -/
theorem drawChanged_targets {s : State} (noBegin : ∀ r, s.NoBegin r) (r : Resource) :
    (s.drawChanged r).cjg.releaseTarget = s.cjg.releaseTarget := by
  obtain ⟨q, rest⟩ := drawChanged_eq s r
  rw [rest, State.setTxq_cjg, State.selfChanged, (recomputeCaps_caps _).cjg,
    (tableChanged_flagsOnly_of_noBegin noBegin).target]

end Sys2Proof.Machine
end

section
/-! PROOF. The end of an own REQUEST in MEMBER. -/

namespace Sys2Proof.Machine

/-- R37: the record of an own REQUEST's outcome. -/
def State.outcome (s : State) (r : Resource) (accepted : Bool) : ClaimJudge :=
  { s.cjg with ownRequest := s.cjg.ownRequest.set r { s.cjg.ownRequest.get r with
      lastOutcome := if accepted then .accepted else .refused } }

/-- R37: the event of a refusal. -/
def State.refusal (s : State) (r : Resource) (accepted : Bool) : List Raised :=
  if accepted then []
  else [{ origin := { block := .cjg, slot := 3 }
          record := s.event .requestRefused none (some r)
            (some (s.cjg.ownRequest.get r).ownVerdict.code) }]

/-- R37, R82, R89: the link after an own REQUEST. -/
def State.outcomeLnk (s : State) (ack accepted : Bool) : Link :=
  { s.ownLnk ack with
    counters := (s.ownLnk ack).counters.bump
      (if accepted then .requestsAccepted else .requestsRefused) }

/-- R37: an own REQUEST's outcome on record, before the self entry takes it. -/
def State.recorded (s : State) (ack : Bool) (r : Resource) (accepted : Bool) : State :=
  ((((s.setLnk (s.outcomeLnk ack accepted)).setMbr s.ownMbr).setTxq (s.txq.completed true)).setCjg
    (s.outcome r accepted)).setRaised (s.raised ++ s.refusal r accepted)

theorem recordOutcome_completeOwn {s : State} (member : s.mbr.station = .member) (ack : Bool)
    (r : Resource) (accepted : Bool) :
    (s.completeOwn ack true).recordOutcome r accepted = s.recorded ack r accepted := by
  have counts : s.mbr.station.counts = true := by rw [member]; rfl
  rw [completeOwn_parts]
  unfold State.recordOutcome
  cases accepted with
  | true =>
    rw [if_pos rfl, bump_of_counts (by exact counts), State.recorded, State.refusal, if_pos rfl,
      List.append_nil]
    rfl
  | false =>
    rw [if_neg Bool.false_ne_true, bump_of_counts (by exact counts)]
    rfl

/-- R98, R99: the queue after an own REQUEST. -/
def State.paced (s : State) (r : Resource) (accepted : Bool) (raise : Nat) : TransmitQueue :=
  { s.txq.completed true with
    step := (s.txq.completed true).step.set r (stepAfter accepted raise)
    holdOff := (s.txq.completed true).holdOff.set r
      (if accepted then none else some (s.clock + Config.holdOffTime))
    spacing := (s.txq.completed true).spacing.set r
      (if accepted then some (s.clock + Config.spacingTime) else none) }

/-- R37, R98, R99: the state at the end of an own REQUEST, before the notices of the self entry. -/
def State.requestEnded (s : State) (ack : Bool) (r : Resource) (accepted : Bool) (raise : Nat)
    (e : Entry) : State :=
  ((s.recorded ack r accepted).setStb { s.stb with self := some e }).setTxq
    (s.paced r accepted raise)

/-- R37: an own REQUEST ends in its outcome. -/
theorem requestDone_of_sends {s : State} {r : Resource} {c : ClaimClass} {before raise d : Nat}
    {e : Entry} (sends : s.Sends (.request r c before raise d)) (member : s.mbr.station = .member)
    (self : s.stb.self = some e) (ack veto : Bool) :
    s.requestDone ack veto = (s.requestEnded ack r (!(veto || s.lnk.vetoDriven)) raise
      (e.withOwnRequest r c raise (s.limitedDemand e r d) (!(veto || s.lnk.vetoDriven)))).drawChanged
        r := by
  have isMember := (isMember_iff s).mpr member
  rw [State.requestDone, sending_of_sends sends, isMember]
  dsimp only
  generalize (!(veto || s.lnk.vetoDriven)) = accepted
  rw [recordOutcome_completeOwn member]
  have still : (s.recorded ack r accepted).isMember = true := isMember
  have own : (s.recorded ack r accepted).stb.self = some e := self
  rw [if_pos still, State.applyOwnRequest, own]
  dsimp only
  have ended : ((s.recorded ack r accepted).mapSelf fun x => x.withOwnRequest r c raise
      ((s.recorded ack r accepted).limitedDemand e r d) accepted).pace r accepted raise =
        s.requestEnded ack r accepted raise
          (e.withOwnRequest r c raise (s.limitedDemand e r d) accepted) := by
    rw [State.mapSelf, own]
    rfl
  rw [ended, State.drawChanged]

/-- R37, R140, R142, R144: the limited demand, as the statement writes it. -/
theorem limitedDemand_eq (s : State) (e : Entry) (r : Resource) (d : Nat) :
    s.limitedDemand e r d = if s.dcc.fan.condition ≠ .running then 0
      else if r = .power then (if e.shed then min d (e.floorOr0 .power) else d)
      else if s.zlp.interlock then 0 else d := by
  unfold State.limitedDemand
  cases r <;> rfl

theorem accepted_iff (veto driven : Bool) :
    (!(veto || driven)) = true ↔ veto = false ∧ driven = false := by
  cases veto <;> cases driven <;> simp

/-- R40: a refused REQUEST moves no total. -/
theorem requestEnded_agrees {s : State} {e e' : Entry} (self : s.stb.self = some e)
    (drawn : e'.committed = e.committed) (agrees : s.OverdrawAgrees) (ack : Bool) (r : Resource)
    (accepted : Bool) (raise : Nat) : (s.requestEnded ack r accepted raise e').OverdrawAgrees := by
  refine agrees_congr (s := s) rfl (total_congr ?_ rfl) (fun _ => rfl) agrees
  rw [self]
  exact congrArg some drawn

/-- R37, R142: the self entry at the end of an own REQUEST, by the interlock at the end. -/
theorem ownRequest_self {z : State} {image : Option Image} {e : Entry} {r : Resource}
    {c : ClaimClass} {raise demand : Nat} {accepted : Bool}
    (ends : (z.zlp.interlock = false →
        z.stb.self = some (e.withOwnRequest r c raise demand accepted)) ∧
      (z.zlp.interlock = true → image.isSome = true →
        z.stb.self = some (e.withOwnRequest r c raise demand accepted).withoutValves) ∧
      (image = none → z.stb.self = some (e.withOwnRequest r c raise demand accepted))) :
    ∃ e', z.stb.self = some e' ∧
      e'.committed = (if accepted then e.committed.set r (e.committed.get r + raise)
                      else e.committed) ∧
      (z.zlp.interlock = false → e'.demand = e.demand.set r (some demand)) ∧
      (z.zlp.interlock = true → image.isSome = true →
        e'.demand = { e.demand.set r (some demand) with cool := some 0, heat := some 0 }) ∧
      e'.lastClass = e.lastClass.set r (some c) ∧ e'.floor = e.floor ∧
      e'.weight = e.weight ∧ e'.shed = e.shed := by
  obtain ⟨clear, stood, bare⟩ := ends
  cases interlock : z.zlp.interlock with
  | false =>
    exact ⟨_, clear interlock, rfl, fun _ => rfl, nofun, rfl, rfl, rfl, rfl⟩
  | true =>
    cases image with
    | none => exact ⟨_, bare rfl, rfl, nofun, nofun, rfl, rfl, rfl, rfl⟩
    | some img =>
      exact ⟨_, stood interlock rfl, rfl, nofun, fun _ _ => rfl, rfl, rfl, rfl, rfl⟩

/-- Settles O37. -/
theorem ownRequestCompletes : Obligations.OwnRequestCompletes := by
  intro s r c before raise d ack veto e sends member self
  dsimp only
  rw [← limitedDemand_eq s e r d]
  have runs := exec_of_running sends.1.1 (.ownRequestCompletion ack veto)
  have acts : effect (.ownRequestCompletion ack veto) s = _ :=
    requestDone_of_sends sends member self ack veto
  rw [acts] at runs
  simp only [← accepted_iff veto s.lnk.vetoDriven]
  generalize (!(veto || s.lnk.vetoDriven)) = accepted at runs ⊢
  have own : (s.requestEnded ack r accepted raise (e.withOwnRequest r c raise
      (s.limitedDemand e r d) accepted)).stb.self = some (e.withOwnRequest r c raise
        (s.limitedDemand e r d) accepted) := rfl
  have refused (no : ¬accepted = true) (agrees : s.OverdrawAgrees) :=
    requestEnded_agrees (e' := e.withOwnRequest r c raise (s.limitedDemand e r d) accepted) self
      (if_neg no) agrees ack r accepted raise
  generalize rest : s.requestEnded ack r accepted raise (e.withOwnRequest r c raise
    (s.limitedDemand e r d) accepted) = y at runs own refused
  have table := drawChanged_table y r
  have notice := table.notice
  have agrees := drawChanged_agrees y r
  have raised (flags : y.OverdrawAgrees) := drawChanged_raised flags r
  have ends := drawChanged_self own r
  have request := table.request
  have stands := table.self
  have txq := table.txq
  generalize y.drawChanged r = z at *
  have svc : z.svc = s.svc := by rw [notice.svc, ← rest]; rfl
  refine ⟨z.flush, runs, ?_, ?_, ?_, ?_, ?_, ?_, ?_, ?_, ?_, (flush_agrees z).mpr agrees,
    fun no flags => ?_, ?_, ?_, ?_, ?_, ?_, ?_, ?_⟩
  · rw [State.flush_lnk, notice.lnk, ← rest]
    show s.outcomeLnk ack accepted = _
    rw [State.outcomeLnk, State.ownLnk, member]
    rfl
  · rw [State.flush_mbr, notice.mbr, ← rest]
    show s.ownMbr = _
    rw [State.ownMbr, member]
    rfl
  · rw [State.flush_stb, State.flush_zlp]
    have cfg : y.cfg = s.cfg := by rw [← rest]; rfl
    rw [cfg] at ends
    exact ownRequest_self ends
  · rw [State.flush_stb, notice.stb, ← rest]
    rfl
  · rw [State.flush_cjg, request, ← rest]
    rfl
  · rw [State.flush_txq, txq, ← rest]
    show (s.txq.completed true).step.set r _ = _
    rw [TransmitQueue.completed_rest]
    rfl
  · rw [State.flush_txq, txq, ← rest]
    show (s.txq.completed true).holdOff.set r _ = _
    rw [TransmitQueue.completed_rest]
  · rw [State.flush_txq, txq, ← rest]
    show (s.txq.completed true).spacing.set r _ = _
    rw [TransmitQueue.completed_rest]
  · rw [State.flush_txq, txq, ← rest]
    show (s.txq.completed true).stateTimer = _
    rw [TransmitQueue.completed_rest]
  · refine flush_svc_of_one (s := s) (o := { block := .cjg, slot := 3 }) ?_ ?_
    · exact svc
    · rw [raised (refused no flags), ← rest]
      show s.raised ++ s.refusal r accepted = _
      rw [sends.1.2, State.refusal, if_neg no]
      rfl
  · rw [State.flush_csr, notice.csr, ← rest]; rfl
  · rw [State.flush_sup, notice.sup, ← rest]; rfl
  · rw [State.flush_cfg, notice.cfg, ← rest]; rfl
  · rw [State.flush_clock, notice.clock, ← rest]; rfl
  · rw [State.flush_pending, notice.pending, ← rest]; rfl
  · rw [State.PortStands, ← svc]
    exact flush_port z
  · rw [State.flush_dcc, notice.damper, ← rest]; rfl

end Sys2Proof.Machine
end

section
/-! PROOF. The end of an own RELEASE in MEMBER. -/

namespace Sys2Proof.Machine

theorem Per.set_get {α : Type} (p : Per α) (r : Resource) : p.set r (p.get r) = p := by
  cases r <;> rfl

/-- R45: a held target that a new own draw has met. -/
def metTarget (held : Option Nat) (newDraw : Nat) : Option Nat :=
  match held with
  | none => none
  | some target => if newDraw ≤ target then none else some target

theorem meetTarget_eq (s : State) (r : Resource) (newDraw : Nat) :
    s.meetTarget r newDraw = s.setTarget r (metTarget (s.cjg.releaseTarget.get r) newDraw) := by
  have stands : s.setTarget r (s.cjg.releaseTarget.get r) = s := by
    rw [State.setTarget, Per.set_get]
    rfl
  unfold State.meetTarget
  cases held : s.cjg.releaseTarget.get r with
  | none =>
    rw [held] at stands
    exact stands.symm
  | some target =>
    rw [held] at stands
    dsimp only [metTarget]
    split
    · rfl
    · exact stands.symm

/-- R39, R45: the state at the end of an own RELEASE, before the notices of the self entry. -/
def State.releaseEnded (s : State) (ack : Bool) (r : Resource) (newDraw : Nat) (e : Entry) : State :=
  ((((s.setLnk (s.ownLnk ack)).setMbr s.ownMbr).setTxq (s.txq.completed false)).setStb
    { s.stb with self := some (e.withRelease r newDraw) }).setTarget r
      (metTarget (s.cjg.releaseTarget.get r) newDraw)

/-- R39: an own RELEASE ends. -/
theorem releaseDone_of_sends {s : State} {r : Resource} {newDraw : Nat} {e : Entry}
    (sends : s.Sends (.release r newDraw)) (member : s.mbr.station = .member)
    (self : s.stb.self = some e) (ack : Bool) :
    s.releaseDone ack = (s.releaseEnded ack r newDraw e).drawChanged r := by
  rw [State.releaseDone, sending_of_sends sends]
  dsimp only
  rw [if_pos (isMember_of_completed member ack false), completeOwn_parts, State.applyOwnRelease,
    meetTarget_eq]
  have ended : ((((s.setLnk (s.ownLnk ack)).setMbr s.ownMbr).setTxq (s.txq.completed
      false)).mapSelf fun e => e.withRelease r newDraw) = (((s.setLnk (s.ownLnk ack)).setMbr
        s.ownMbr).setTxq (s.txq.completed false)).setStb
          { s.stb with self := some (e.withRelease r newDraw) } := by
    rw [State.mapSelf, State.setTxq_stb, State.setMbr_stb, State.setLnk_stb, self]
    rfl
  rw [ended, State.drawChanged]
  rfl

/-- R17: a lower own draw raises no total. -/
theorem total_withRelease_le {t : ShareTable} {e : Entry} (self : t.self = some e) {r : Resource}
    {newDraw : Nat} (lower : newDraw ≤ e.committed.get r) (r' : Resource) :
    ShareTable.total { t with self := some (e.withRelease r newDraw) } r' ≤ t.total r' := by
  have own : (e.withRelease r newDraw).committed.get r' ≤ e.committed.get r' := by
    by_cases here : r' = r
    · rw [here, Entry.withRelease, Per.get_set]
      exact lower
    · rw [Entry.withRelease, Per.get_set_other _ _ here]
  simp only [ShareTable.total, ShareTable.counted, self, Option.toList_some, List.map_append,
    List.map_cons, List.map_nil, List.sum_append, List.sum_cons, List.sum_nil]
  omega

/-- R40: no flag begins as the own draw falls, while the flags agree. -/
theorem releaseEnded_noBegin {s : State} {e : Entry} (self : s.stb.self = some e)
    (agrees : s.OverdrawAgrees) {r : Resource} {newDraw : Nat} (lower : newDraw ≤ e.committed.get r)
    (ack : Bool) (r' : Resource) : (s.releaseEnded ack r newDraw e).NoBegin r' := by
  intro above
  have below := total_withRelease_le self lower r'
  have over' : (s.csr.capacity.get r').value < s.stb.total r' := lt_of_lt_of_le above below
  show s.cjg.overdraw.get r' = true
  rw [agrees r']
  exact decide_eq_true over'

/-- Settles O38. -/
theorem ownReleaseCompletes : Obligations.OwnReleaseCompletes := by
  intro s r newDraw ack e sends member self
  have runs := exec_of_running sends.1.1 (.ownReleaseCompletion ack)
  have acts : effect (.ownReleaseCompletion ack) s = _ := releaseDone_of_sends sends member self ack
  rw [acts] at runs
  have own : (s.releaseEnded ack r newDraw e).stb.self = some (e.withRelease r newDraw) := rfl
  have noBegin (agrees : s.OverdrawAgrees) (lower : newDraw ≤ e.committed.get r) :=
    releaseEnded_noBegin self agrees lower ack
  generalize rest : s.releaseEnded ack r newDraw e = y at runs own noBegin
  have table := drawChanged_table y r
  have notice := table.notice
  have agrees := drawChanged_agrees y r
  have targets (quiet : ∀ r', y.NoBegin r') := drawChanged_targets quiet r
  have stands := table.self
  have request := table.request
  have txq := table.txq
  have svc : (y.drawChanged r).svc = s.svc := by rw [notice.svc, ← rest]; rfl
  generalize y.drawChanged r = z at *
  refine ⟨z.flush, runs, completed_of ?_ ?_, ?_, ?_, fun flags lower => ?_, ?_,
    (flush_agrees z).mpr agrees, ?_, ?_, ?_, ?_, ?_, ?_, ?_, ?_, ?_, ?_⟩
  · rw [State.flush_lnk, notice.lnk, ← rest]; rfl
  · rw [State.flush_mbr, notice.mbr, ← rest]; rfl
  · rw [State.SelfStands, own] at stands
    rcases stands with same | shut
    · exact ⟨_, same, rfl, rfl, rfl, rfl, rfl⟩
    · exact ⟨_, shut, rfl, rfl, rfl, rfl, rfl⟩
  · rw [State.flush_stb, notice.stb, ← rest]; rfl
  · rw [State.flush_cjg, targets (noBegin flags lower), ← rest]; rfl
  · rw [State.flush_cjg, request, ← rest]; rfl
  · rw [State.flush_txq, txq, ← rest]
    show (s.txq.completed false).step = _
    rw [TransmitQueue.completed_rest]
  · rw [State.flush_txq, txq, ← rest]
    show (s.txq.completed false).holdOff = _
    rw [TransmitQueue.completed_rest]
  · rw [State.flush_txq, txq, ← rest]
    show (s.txq.completed false).spacing = _
    rw [TransmitQueue.completed_rest]
  · rw [State.flush_csr, notice.csr, ← rest]; rfl
  · rw [State.flush_sup, notice.sup, ← rest]; rfl
  · rw [State.flush_cfg, notice.cfg, ← rest]; rfl
  · rw [State.flush_clock, notice.clock, ← rest]; rfl
  · rw [State.flush_pending, notice.pending, ← rest]; rfl
  · rw [State.PortStands, ← svc]
    exact flush_port z
  · rw [State.flush_dcc, notice.damper, ← rest]; rfl

end Sys2Proof.Machine
end

section
/-! PROOF. The Zone Loop's timers and the door. -/

namespace Sys2Proof.Machine

/-- R134: a change of the door input in the running part. -/
theorem doorChange_of_changed {s : State} (running : s.held = false) {active : Bool}
    (changed : s.zlp.doorActive ≠ active) :
    s.doorChange active = (s.setZlp { s.zlp with doorActive := active }).doorHeld active := by
  have running' : (s.setZlp { s.zlp with doorActive := active }).held = false := running
  rw [State.doorChange, running, if_neg Bool.false_ne_true, if_neg changed]

theorem doorChange_of_same {s : State} (running : s.held = false) :
    s.doorChange s.zlp.doorActive = s := by
  rw [State.doorChange, running, if_neg Bool.false_ne_true, if_pos rfl]

/-- R134: what a change does in MEMBER with the door enabled. -/
theorem doorHeld_of_enabled {s : State} {img : Image} (image : s.cfg.image = some img)
    (member : s.mbr.station = .member) (enabled : img.doorEnabled = true) (active : Bool) :
    s.doorHeld active = if active then s.doorOpened else s.doorClosed img := by
  rw [State.doorHeld, image]
  refine if_pos ?_
  rw [enabled, (isMember_iff s).mpr member]
  rfl

/-- R134: elsewhere it does nothing. -/
theorem doorHeld_of_idle {s : State} {img : Image} (image : s.cfg.image = some img)
    (idle : s.mbr.station ≠ .member ∨ img.doorEnabled = false) (active : Bool) :
    s.doorHeld active = s := by
  rw [State.doorHeld, image]
  refine if_neg ?_
  rw [Bool.and_eq_true, isMember_iff]
  rintro ⟨member, enabled⟩
  rcases idle with outside | disabled
  · exact outside member
  · rw [disabled] at enabled
    cases enabled

/-- R134: the hold ends with its event. -/
theorem endDoorHold_of_hold {s : State} (held : s.zlp.hold ≠ .none) :
    s.endDoorHold = (s.setZlp { s.zlp with hold := .none, holdTimer := none
                                           ceiling := .all none }).raise zlpOrigin .doorHold none
      none (some 0) := if_neg held

/-- R134, R135: the hold opens with the published demands as its ceilings. -/
theorem openHold_of_self {s : State} {e : Entry} (self : s.stb.self = some e) :
    s.openHold = (s.setZlp { s.zlp with
      hold := .opened, ceiling := Per.of fun r => some (e.demandOr r) }).raise zlpOrigin .doorHold
        none none (some 1) := by
  rw [State.openHold, self]

/-- R134: a door input that changes in MEMBER, with the door enabled. -/
theorem effect_doorChange {s : State} (ready : s.Ready) {img : Image}
    (image : s.cfg.image = some img) (member : s.mbr.station = .member)
    (enabled : img.doorEnabled = true) {active : Bool} (changed : s.zlp.doorActive ≠ active) :
    effect (.doorInputChange active) s =
      if active then (s.setZlp { s.zlp with doorActive := active }).doorOpened
      else (s.setZlp { s.zlp with doorActive := active }).doorClosed img :=
  (doorChange_of_changed ready.1 changed).trans
    (doorHeld_of_enabled (by exact image) (by exact member) enabled active)

/-- Settles O50. -/
theorem loopTimersAndDoor : Obligations.LoopTimersAndDoor := by
  intro s ready
  refine ⟨exec_becomes ready (c := .switchTimerExpiry) rfl ready.2,
    exec_becomes ready (c := .boostTimerExpiry) rfl ready.2,
    exec_becomes ready (c := .frostTimerExpiry) rfl ready.2, fun runout runs => ?_,
    fun img e image self => ⟨fun idle active => ?_, fun member enabled =>
      ⟨fun shut unheld => ?_, fun active opened time => ?_, fun active opened time => ?_,
        fun shut runout => ?_⟩⟩⟩
  · obtain ⟨t, timer⟩ := Option.isSome_iff_exists.mp runs
    have acts : effect .holdTimerExpiry s = s.endDoorHold := by
      show s.holdEnd = _
      rw [State.holdEnd, timer]
      exact if_pos runout
    exact exec_reports ready (acts.trans (endDoorHold_of_hold (by rw [runout]; exact nofun))) ready.2
  · refine exec_becomes ready (c := .doorInputChange active) ?_ ready.2
    show s.doorChange active = _
    by_cases same : s.zlp.doorActive = active
    · rw [← same, doorChange_of_same ready.1]
      rfl
    · exact (doorChange_of_changed ready.1 same).trans
        (doorHeld_of_idle (by exact image) (by exact idle) active)
  · have acts := effect_doorChange ready image member enabled (active := true)
      (by rw [shut]; exact Bool.false_ne_true)
    rw [if_pos rfl, State.doorOpened] at acts
    dsimp only [State.setZlp_zlp] at acts
    rw [unheld] at acts
    exact exec_reports ready (acts.trans (openHold_of_self (by exact self))) ready.2
  · refine exec_becomes ready ((effect_doorChange ready image member enabled
      (by rw [active]; exact Bool.noConfusion)).trans ?_) ready.2
    rw [if_neg Bool.false_ne_true, State.doorClosed]
    dsimp only [State.setZlp_zlp]
    rw [opened]
    exact if_neg time.ne'
  · have acts := effect_doorChange ready image member enabled (active := false)
      (by rw [active]; exact Bool.noConfusion)
    rw [if_neg Bool.false_ne_true, State.doorClosed] at acts
    dsimp only [State.setZlp_zlp] at acts
    rw [opened] at acts
    exact exec_reports ready (acts.trans ((if_pos time).trans
      (endDoorHold_of_hold (by exact nofun)))) ready.2
  · refine exec_becomes ready ((effect_doorChange ready image member enabled
      (by rw [shut]; exact Bool.false_ne_true)).trans ?_) ready.2
    rw [if_pos rfl, State.doorOpened]
    dsimp only [State.setZlp_zlp]
    rw [runout]
    rfl

end Sys2Proof.Machine
end

section
/-! PROOF. The claim decision, the own cut, the yield and the offered release target. -/

namespace Sys2Proof.Machine

/-! ### What the tests of the claim decision say -/

/-- R97: the key holds a RELEASE, as an intent or as a pending replacement. -/
theorem holdsRelease_iff (q : TransmitQueue) (r : Resource) :
    q.holdsRelease r = true ↔ (∃ t, q.intents.claim.get r = some (.release t)) ∨
      ∃ t, q.replacements.claim.get r = some (.release t) := by
  rw [TransmitQueue.holdsRelease, Bool.or_eq_true]
  refine or_congr ?_ ?_ <;> split <;> simp_all

/-- R97: a REQUEST may be asked. -/
theorem mayRaise_iff (s : State) (r : Resource) :
    s.mayRaise r = true ↔ s.zlp.block ≠ some r ∧ s.cjg.releaseTarget.get r = none ∧
      s.txq.holdOff.get r = none ∧ s.txq.spacing.get r = none ∧
      (∀ t, s.txq.intents.claim.get r ≠ some (.release t)) ∧
      ∀ t, s.txq.replacements.claim.get r ≠ some (.release t) := by
  have free : (!s.txq.holdsRelease r) = true ↔
      (∀ t, s.txq.intents.claim.get r ≠ some (.release t)) ∧
      ∀ t, s.txq.replacements.claim.get r ≠ some (.release t) := by
    rw [Bool.not_eq_true', ← Bool.not_eq_true, holdsRelease_iff, not_or, not_exists, not_exists]
  simp only [State.mayRaise, Bool.and_eq_true, decide_eq_true_iff, Option.isNone_iff_eq_none,
    free, and_assoc]

/-- R97: what forbids a REQUEST. -/
theorem not_mayRaise_of_barred {s : State} {r : Resource}
    (barred : s.zlp.block = some r ∨ s.cjg.releaseTarget.get r ≠ none ∨
      s.txq.holdOff.get r ≠ none ∨ s.txq.spacing.get r ≠ none ∨
      (∃ t, s.txq.intents.claim.get r = some (.release t)) ∨
      ∃ t, s.txq.replacements.claim.get r = some (.release t)) : s.mayRaise r ≠ true := by
  rw [Ne, mayRaise_iff]
  rintro ⟨block, target, holdOff, spacing, intent, replacement⟩
  rcases barred with h | h | h | h | ⟨t, h⟩ | ⟨t, h⟩
  · exact block h
  · exact h target
  · exact h holdOff
  · exact h spacing
  · exact intent t h
  · exact replacement t h

/-- R47: a peer is short by more than the COMFORT headroom. -/
theorem peerUnserved_iff (s : State) (r : Resource) :
    s.peerUnserved r = true ↔ ∃ x ∈ s.stb.order, x.present = true ∧
      x.committed.get r < x.demandOr r ∧
      ((s.csr.capacity.get r).value : Int) - (((s.csr.capacity.get r).value / 8 : Nat) : Int) -
        (s.stb.total r : Int) < (x.demandOr r : Int) - (x.committed.get r : Int) := by
  rw [State.peerUnserved, List.any_eq_true]
  refine exists_congr fun x => and_congr_right fun _ => ?_
  rw [Bool.and_eq_true, Bool.and_eq_true, and_assoc]
  exact and_congr_right fun _ => and_congr decide_eq_true_iff decide_eq_true_iff

/-! ### The operations, from the self entry -/

theorem decideClaim_of_self {s : State} {e : Entry} (self : s.stb.self = some e) (r : Resource) :
    s.decideClaim r =
      if e.demandOr r + 8 < e.committed.get r then s.ask (.claim r (.release (e.demandOr r)))
      else if e.committed.get r < e.demandOr r ∧ s.mayRaise r = true then
        s.ask (.claim r (.request (s.zlp.classes.get r)))
      else s := by
  rw [State.decideClaim, self]

/-- R43: an offered target at or above the held one. -/
theorem offerTarget_of_held {s : State} {r : Resource} {target h : Nat}
    (held : s.cjg.releaseTarget.get r = some h) (below : h ≤ target) :
    s.offerTarget r target = s := by
  rw [State.offerTarget, held]
  exact if_neg (by rw [takesTarget, decide_eq_true_iff]; exact below.not_gt)

/-- R43: an offered target below the held one, or with none held. -/
theorem offerTarget_of_lower {s : State} {r : Resource} {target : Nat}
    (lower : ∀ h, s.cjg.releaseTarget.get r = some h → target < h) :
    s.offerTarget r target =
      ((s.setTarget r (some target)).recomputeCaps).ask (.claim r (.release target)) := by
  refine if_pos ?_
  cases held : s.cjg.releaseTarget.get r with
  | none => rfl
  | some h => exact decide_eq_true (lower h held)

theorem computeCut_of_self {s : State} {e : Entry} (self : s.stb.self = some e) (r : Resource) :
    s.computeCut r =
      if e.committed.get r - cutAmount (s.stb.total r - (s.csr.capacity.get r).value)
          (s.stb.aboveFloors r) (e.committed.get r) (e.floorOr0 r) (s.stb.total r) <
        e.committed.get r then
        s.offerTarget r (e.committed.get r - cutAmount
          (s.stb.total r - (s.csr.capacity.get r).value) (s.stb.aboveFloors r)
          (e.committed.get r) (e.floorOr0 r) (s.stb.total r))
      else s := by
  rw [State.computeCut, self]

theorem yieldShare_of_self {s : State} {e : Entry} (self : s.stb.self = some e) (r : Resource) :
    s.yieldShare r =
      if s.cjg.overdraw.get r = false ∧ s.cjg.releaseTarget.get r = none ∧
        s.zlp.classes.get r = .comfort ∧ 0 < s.ownExcess e r ∧ s.peerUnserved r = true then
        s.offerTarget r (e.committed.get r - min (s.ownExcess e r) 8)
      else s := by
  rw [State.yieldShare, self]

/-! ### The statement -/

/-- Settles O49: each operation's tests, read as the rules state them. -/
theorem claimIsDecided : Obligations.ClaimIsDecided := by
  refine ⟨fun s r e self => ?_, fun s r target => ?_, fun s r e self => ?_,
    fun s r e self => ?_⟩
  · rw [decideClaim_of_self self]
    refine ⟨fun above => if_pos above, fun below block target holdOff spacing intent other => ?_,
      fun near barred => (if_neg near.not_gt).trans (if_neg ?_)⟩
    · have free := (mayRaise_iff s r).mpr ⟨block, target, holdOff, spacing, intent, other⟩
      exact (if_neg (by omega)).trans (if_pos ⟨below, free⟩)
    · rintro ⟨below, free⟩
      rcases barred with served | barred
      · exact served.not_gt below
      · exact not_mayRaise_of_barred barred free
  · exact ⟨fun h held below => offerTarget_of_held held below,
      fun lower => ⟨_, rfl, offerTarget_of_lower lower⟩⟩
  · refine ⟨fun cuts => (computeCut_of_self self r).trans (if_pos cuts),
      fun whole => (computeCut_of_self self r).trans (if_neg whole.ge.not_gt),
      fun overdrawn => if_pos overdrawn, fun fits => if_neg (Bool.eq_false_iff.mp fits)⟩
  · refine ⟨fun ⟨fits, free, comfort, excess, short⟩ => (yieldShare_of_self self r).trans (if_pos
      ⟨fits, free, comfort, excess, (peerUnserved_iff s r).mpr short⟩),
      fun keeps => (yieldShare_of_self self r).trans (if_neg fun gives => keeps ?_)⟩
    obtain ⟨fits, free, comfort, excess, short⟩ := gives
    exact ⟨fits, free, comfort, excess, (peerUnserved_iff s r).mp short⟩

end Sys2Proof.Machine
end

section
/-! SUPPORT. The Zone Loop's arithmetic: the clamp, the integrator, and the loop of one resource. -/

namespace Sys2Proof.Machine

/-! ### The clamp -/

theorem clampInt_of_within {lo hi x : Int} (above : lo ≤ x) (below : x ≤ hi) :
    clampInt lo hi x = x := by
  rw [clampInt, if_neg above.not_gt, if_neg below.not_gt]

theorem clampInt_bounds {lo hi : Int} (range : lo ≤ hi) (x : Int) :
    lo ≤ clampInt lo hi x ∧ clampInt lo hi x ≤ hi := by
  unfold clampInt
  split
  · omega
  · split <;> omega

/-- R131: the clamp to a rating, as the integer it is. -/
theorem clampRating_cast (rating : Nat) (x : Int) :
    (clampRating rating x : Int) = clampInt 0 rating x :=
  Int.toNat_of_nonneg (clampInt_bounds (Int.natCast_nonneg rating) x).1

theorem clampRating_le (rating : Nat) (x : Int) : clampRating rating x ≤ rating := by
  have within := (clampInt_bounds (Int.natCast_nonneg rating) x).2
  rw [← clampRating_cast] at within
  exact Int.ofNat_le.mp within

/-- An amount within its rating is left as it is. -/
theorem clampRating_of_le {rating i : Nat} (within : i ≤ rating) :
    clampRating rating (i : Int) = i := by
  rw [clampRating, clampInt_of_within (Int.natCast_nonneg i) (Int.ofNat_le.mpr within),
    Int.toNat_natCast]

/-! ### The parts of the loop -/

/-- R131: within half a degree the proportional part is 0. -/
theorem proportional_eq (gain : Nat) (x : Int) :
    proportional gain x = if x.natAbs ≤ 5 then 0 else ((gain : Int) * x).tdiv 8 := by
  have near : (-5 ≤ x ∧ x ≤ 5) ↔ x.natAbs ≤ 5 := by omega
  unfold proportional
  by_cases small : x.natAbs ≤ 5
  · exact (if_pos (near.mpr small)).trans (if_pos small).symm
  · exact (if_neg (mt near.mp small)).trans (if_neg small).symm

theorem directed_eq (m : ZoneMode) (e : Int) : directed m e = if m = .cool then -e else e := by
  cases m <;> rfl

theorem directed_natAbs (m : ZoneMode) (e : Int) : (directed m e).natAbs = e.natAbs := by
  rw [directed_eq]
  split
  · exact Int.natAbs_neg e
  · rfl

theorem integrated_le {rating i : Nat} (within : i ≤ rating) (step : Int) (held : Bool) :
    integrated rating i step held ≤ rating := by
  cases held with
  | true => exact within
  | false => exact clampRating_le rating _

/-- R131, R135, R142: what holds an integrator. -/
theorem holdsIntegrator_iff (z : ZoneLoop) (r : Resource) :
    z.holdsIntegrator r = true ↔
      z.interlock = true ∨ z.hold ≠ .none ∨ r = .cool ∧ z.frostTimer.isSome = true := by
  rw [ZoneLoop.holdsIntegrator, Bool.or_eq_true, Bool.or_eq_true, Bool.and_eq_true,
    decide_eq_true_iff, decide_eq_true_iff, or_assoc]

/-- R131: the loop of HEAT or COOL sets that resource and clears the other. -/
theorem withLoop_parts (z : ZoneLoop) {r : Resource} (valve : r = .heat ∨ r = .cool) (i d : Nat) :
    (z.withLoop r i d).demand.get r = d ∧ (z.withLoop r i d).integrator r = i ∧
      (z.withLoop r i d).demand.get (otherOf r) = 0 ∧
      (z.withLoop r i d).integrator (otherOf r) = 0 := by
  rcases valve with rfl | rfl <;> exact ⟨rfl, rfl, rfl, rfl⟩

/-- R131: the integrator after an interval of the loop. -/
def ZoneLoop.nextIntegrator (z : ZoneLoop) (img : Image) (m : ZoneMode) (r : Resource) (e : Int) :
    Nat :=
  integrated (img.rating r) (z.integrator r)
    (integralStep img.gainI (directed m e) z.boostTimer.isSome) (z.holdsIntegrator r)

/-- R131: what an interval of the loop leaves of the two resources. -/
theorem runLoop_parts (z : ZoneLoop) (img : Image) (m : ZoneMode) {r : Resource} (e : Int)
    (valve : r = .heat ∨ r = .cool) :
    (z.runLoop img m r e).demand.get r = clampRating (img.rating r)
        (proportional img.gainP (directed m e) + (z.nextIntegrator img m r e : Int)) ∧
      (z.runLoop img m r e).integrator r = z.nextIntegrator img m r e ∧
      (z.runLoop img m r e).demand.get (otherOf r) = 0 ∧
      (z.runLoop img m r e).integrator (otherOf r) = 0 :=
  withLoop_parts z valve _ _

theorem nextIntegrator_le {z : ZoneLoop} {img : Image} {r : Resource}
    (within : z.integrator r ≤ img.rating r) (m : ZoneMode) (e : Int) :
    z.nextIntegrator img m r e ≤ img.rating r := integrated_le within _ _

/-- R131: a held integrator stands. -/
theorem nextIntegrator_of_held {z : ZoneLoop} {r : Resource} (held : z.holdsIntegrator r = true)
    (img : Image) (m : ZoneMode) (e : Int) : z.nextIntegrator img m r e = z.integrator r :=
  if_pos held

/-- R131: a free integrator takes its step, clamped. -/
theorem nextIntegrator_of_free {z : ZoneLoop} {r : Resource} (free : z.holdsIntegrator r = false)
    (img : Image) (m : ZoneMode) (e : Int) :
    (z.nextIntegrator img m r e : Int) = clampInt 0 (img.rating r) ((z.integrator r : Int) +
      integralStep img.gainI (directed m e) z.boostTimer.isSome) := by
  rw [ZoneLoop.nextIntegrator, integrated, if_neg (Bool.eq_false_iff.mp free), clampRating_cast]

/-- R131: the first half of the loop's promise: demand and integrator stay within the rating. -/
theorem runLoop_within {z : ZoneLoop} {img : Image} {r : Resource} (valve : r = .heat ∨ r = .cool)
    (within : z.integrator r ≤ img.rating r) (m : ZoneMode) (e : Int) :
    (z.runLoop img m r e).demand.get r ≤ img.rating r ∧
      (z.runLoop img m r e).integrator r ≤ img.rating r ∧
      (z.runLoop img m r e).demand.get (otherOf r) = 0 ∧
      (z.runLoop img m r e).integrator (otherOf r) = 0 ∧
      (z.holdsIntegrator r = true → (z.runLoop img m r e).integrator r = z.integrator r) ∧
      (-5 ≤ e → e ≤ 5 → (z.runLoop img m r e).demand.get r =
        (z.runLoop img m r e).integrator r) := by
  obtain ⟨demand, integrator, otherDemand, otherIntegrator⟩ := runLoop_parts z img m e valve
  have bound := nextIntegrator_le within m e
  rw [demand, integrator]
  refine ⟨clampRating_le _ _, bound, otherDemand, otherIntegrator,
    fun held => nextIntegrator_of_held held img m e, fun low high => ?_⟩
  rw [proportional_eq, directed_natAbs, if_pos (by omega), zero_add, clampRating_of_le bound]

/-- R131: the second half: the two values the loop computes. -/
theorem runLoop_values (z : ZoneLoop) (img : Image) (m : ZoneMode) {r : Resource} (e : Int)
    (valve : r = .heat ∨ r = .cool) :
    (z.holdsIntegrator r = false → ((z.runLoop img m r e).integrator r : Int) =
      clampInt 0 (img.rating r) ((z.integrator r : Int) +
        integralStep img.gainI (directed m e) z.boostTimer.isSome)) ∧
      ((z.runLoop img m r e).demand.get r : Int) = clampInt 0 (img.rating r)
        (proportional img.gainP (directed m e) + ((z.runLoop img m r e).integrator r : Int)) := by
  obtain ⟨demand, integrator, -, -⟩ := runLoop_parts z img m e valve
  rw [demand, integrator]
  exact ⟨fun free => nextIntegrator_of_free free img m e, clampRating_cast _ _⟩

/-! ### The loop's stage -/

/-- R132: the Zone Loop with its boost looked at. -/
def State.boosted (s : State) (img : Image) : ZoneLoop :=
  { s.zlp with
    boostTimer := boostAfter s.zlp.boostTimer s.zlp.error img.boostThreshold
      (s.after Config.boostTime) }

/-- R131: no loop runs outside HEAT and COOL. -/
theorem stageLoop_of_idle {s : State} (notHeat : s.zlp.activeMode ≠ some .heat)
    (notCool : s.zlp.activeMode ≠ some .cool) (img : Image) :
    s.stageLoop img = s.setZlp s.zlp.noLoop := by
  rw [State.stageLoop]
  cases active : s.zlp.activeMode with
  | none => rfl
  | some m =>
    cases m with
    | off => rfl
    | vent => rfl
    | heat => exact absurd active notHeat
    | cool => exact absurd active notCool

/-- R131, R132: the loop of the active resource. -/
theorem stageLoop_of_active {s : State} {m : ZoneMode} {r : Resource}
    (active : s.zlp.activeMode = some m) (runs : m.resource = some r) (img : Image) :
    s.stageLoop img = match s.zlp.error with
      | none => s.setZlp (s.boosted img).noLoop
      | some e => s.setZlp ((s.boosted img).runLoop img m r e) := by
  rw [State.stageLoop, active, Option.getD_some, runs]
  rfl

/-- R139: an invalid zone stops the loop and the boost. -/
theorem stageLoop_of_blind {s : State} {m : ZoneMode} {r : Resource}
    (active : s.zlp.activeMode = some m) (runs : m.resource = some r)
    (blind : s.zlp.error = none) (img : Image) :
    s.stageLoop img = s.setZlp ({ s.zlp with boostTimer := none }).noLoop := by
  rw [stageLoop_of_active active runs, State.boosted, blind]
  rfl

/-- R132: with an error the boost is looked at and the loop runs. -/
theorem stageLoop_of_error {s : State} {m : ZoneMode} {r : Resource}
    (active : s.zlp.activeMode = some m) (runs : m.resource = some r) {e : Int}
    (error : s.zlp.error = some e) (img : Image) :
    s.stageLoop img = s.setZlp (ZoneLoop.runLoop { s.zlp with
      boostTimer := if img.boostThreshold ≤ e.natAbs then s.after Config.boostTime
                    else s.zlp.boostTimer } img m r e) := by
  rw [stageLoop_of_active active runs, State.boosted, error]
  rfl

/-! ### AUTO -/

/-- R129: a record that is not AUTO. -/
theorem autoMode_of_fixed {mode : SetMode} (fixed : mode ≠ .auto) (z : ZoneLoop) (start : Timer) :
    z.autoMode mode start = { z with subMode := .none, switchTimer := none } := if_pos fixed

/-- R129: AUTO begins. -/
theorem autoMode_of_begin {z : ZoneLoop} (fresh : z.subMode = .none) (start : Timer) :
    z.autoMode .auto start =
      { z with subMode := chosenSubMode z.error, switchTimer := start } :=
  (if_neg (by exact not_not_intro rfl)).trans (if_pos fresh)

/-- R129: AUTO stands while its switch timer runs. -/
theorem autoMode_of_timed {z : ZoneLoop} (begun : z.subMode ≠ .none)
    (runs : z.switchTimer.isSome = true) (start : Timer) : z.autoMode .auto start = z :=
  (if_neg (by exact not_not_intro rfl)).trans ((if_neg begun).trans (if_pos runs))

/-- R129: AUTO looks at the error once the timer has run out. -/
theorem autoMode_of_expired {z : ZoneLoop} (begun : z.subMode ≠ .none)
    (stopped : z.switchTimer = none) (start : Timer) :
    z.autoMode .auto start = match switchedSubMode z.subMode z.error with
      | some m => { z with subMode := m, switchTimer := start }
      | none => z := by
  refine (if_neg (by exact not_not_intro rfl)).trans ((if_neg begun).trans ((if_neg ?_).trans rfl))
  rw [stopped]
  exact Bool.false_ne_true

/-- R129: AUTO's switch, by the error. -/
theorem autoMode_of_error {z : ZoneLoop} (begun : z.subMode ≠ .none)
    (stopped : z.switchTimer = none) (start : Timer) :
    z.autoMode .auto start = match z.error with
      | none => z
      | some e =>
        if z.subMode = .heat ∧ e < -10 then { z with subMode := .cool, switchTimer := start }
        else if z.subMode = .cool ∧ 10 < e then { z with subMode := .heat, switchTimer := start }
        else z := by
  rw [autoMode_of_expired begun stopped]
  cases error : z.error with
  | none => cases z.subMode <;> rfl
  | some e =>
    cases sub : z.subMode with
    | none => exact absurd sub begun
    | heat =>
      by_cases warm : e < -10
      · simp [switchedSubMode, warm]
      · simp [switchedSubMode, warm]
    | cool =>
      by_cases chilly : 10 < e
      · simp [switchedSubMode, chilly]
      · simp [switchedSubMode, chilly]

/-- R129: the zone's active mode is not AUTO's to change. -/
theorem autoMode_activeMode (z : ZoneLoop) (mode : SetMode) (start : Timer) :
    (z.autoMode mode start).activeMode = z.activeMode := by
  unfold ZoneLoop.autoMode
  split
  · rfl
  · split
    · rfl
    · split
      · rfl
      · split <;> rfl

end Sys2Proof.Machine
end

section
/-! PROOF. The Zone Loop stays within its ratings; modes, changeover and classes. -/

namespace Sys2Proof.Machine

/-! ### Releases of several resources -/

/-- R97: a forced RELEASE to 0, as the queue sees it. -/
theorem forceRelease_zero {s : State} {e : Entry} (self : s.stb.self = some e) (r : Resource) :
    s.forceRelease r 0 = s.setTxq (s.txq.releasing e [r]) := by
  rw [State.forceRelease, self, TransmitQueue.releasing, List.filter_singleton]
  by_cases drawn : 0 < e.committed.get r
  · rw [decide_eq_true drawn]
    exact if_pos drawn
  · rw [decide_eq_false drawn]
    exact if_neg drawn

theorem releasing_append (q : TransmitQueue) (e : Entry) (rs more : List Resource) :
    q.releasing e (rs ++ more) = (q.releasing e rs).releasing e more := by
  rw [TransmitQueue.releasing, List.filter_append, List.foldl_append]
  rfl

/-- R130: the release of a resource the new mode does not use. -/
theorem releaseUnused_eq {s : State} {e : Entry} (self : s.stb.self = some e) (m : ZoneMode)
    (r : Resource) :
    s.releaseUnused m r = s.setTxq (s.txq.releasing e ([r].filter fun r => !m.uses r)) := by
  rw [State.releaseUnused, List.filter_singleton]
  cases m.uses r with
  | true => rfl
  | false => exact forceRelease_zero self r

/-- R130: the three releases of a changeover. -/
theorem releaseUnused_each {s : State} {e : Entry} (self : s.stb.self = some e) (m : ZoneMode) :
    ((s.releaseUnused m .cool).releaseUnused m .heat).releaseUnused m .power = s.setTxq
      (s.txq.releasing e ([.cool, .heat, .power].filter fun r => !m.uses r)) := by
  have parts : ([.cool, .heat, .power] : List Resource).filter (fun r => !m.uses r) =
      [.cool].filter (fun r => !m.uses r) ++ [.heat].filter (fun r => !m.uses r) ++
        [.power].filter fun r => !m.uses r := by
    rw [← List.filter_append, ← List.filter_append]
    rfl
  rw [releaseUnused_eq self m .cool, releaseUnused_eq (s := s.setTxq _) (by exact self) m .heat,
    releaseUnused_eq (s := (s.setTxq _).setTxq _) (by exact self) m .power, parts,
    releasing_append, releasing_append]
  rfl

/-- R130: a changeover sets the mode, clears the loop, and releases what the mode does not use. -/
theorem changeover_eq {s : State} {e : Entry} (self : s.stb.self = some e) (m : ZoneMode) :
    s.changeover m e = (s.setZlp { s.zlp with
      activeMode := some m, integHeat := 0, integCool := 0, boostTimer := none
      demand := unusedZero m s.zlp.demand, block := blockAfter m e }).setTxq
        (s.txq.releasing e ([.cool, .heat, .power].filter fun r => !m.uses r)) :=
  releaseUnused_each (s := s.setZlp _) (by exact self) m

/-! ### The mode's stage -/

/-- R130: what a mode uses. -/
theorem uses_eq (m : ZoneMode) (r : Resource) :
    m.uses r = decide (r = .power ∧ m ≠ .off ∨ r = .heat ∧ m = .heat ∨ r = .cool ∧ m = .cool) := by
  cases m <;> cases r <;> rfl

/-- R130: the block of a changeover. -/
theorem blockAfter_eq (m : ZoneMode) (e : Entry) :
    blockAfter m e = if m = .heat ∧ 0 < e.committed.cool then some .heat
      else if m = .cool ∧ 0 < e.committed.heat then some .cool else none := by
  cases m with
  | off => rfl
  | vent => rfl
  | heat =>
    by_cases drawn : 0 < e.committed.cool
    · exact (if_pos drawn).trans (if_pos ⟨rfl, drawn⟩).symm
    · exact (if_neg drawn).trans ((if_neg fun h => drawn h.2).trans (if_neg (by simp))).symm
  | cool =>
    by_cases drawn : 0 < e.committed.heat
    · exact (if_pos drawn).trans ((if_neg (by simp)).trans (if_pos ⟨rfl, drawn⟩)).symm
    · exact (if_neg drawn).trans ((if_neg (by simp)).trans (if_neg fun h => drawn h.2)).symm

/-- R128: the mode of a record, with AUTO's sub-mode. -/
theorem activeOf_eq (mode : SetMode) (sub : SubMode) :
    activeOf mode sub = match mode with
      | .off => .off
      | .vent => .vent
      | .heat => .heat
      | .cool => .cool
      | .auto => if sub = .cool then .cool else .heat := by
  cases mode with
  | auto => cases sub <;> rfl
  | off => rfl
  | vent => rfl
  | heat => rfl
  | cool => rfl

/-- R128: the freeze wake stands until a valid zone of 8 degrees or more. -/
theorem keepsFreeze_iff (freeze : Bool) (zone : Reading) :
    keepsFreeze freeze zone = true ↔ freeze = true ∧ ∀ x, zone = .valid x → x < 80 := by
  cases zone <;> simp [keepsFreeze, Reading.temp]

/-- R128: the mode an interval asks for. -/
def State.wantedMode (s : State) (p : SetpointRecord) : ZoneMode :=
  if keepsFreeze s.mbr.freezeWake s.zlp.zone then .heat
  else activeOf p.mode (s.zlp.autoMode p.mode (s.after Config.switchTime)).subMode

/-- R128, R129: the state with the freeze wake and AUTO looked at. -/
def State.modeLooked (s : State) (p : SetpointRecord) : State :=
  (s.setMbr { s.mbr with freezeWake := keepsFreeze s.mbr.freezeWake s.zlp.zone }).setZlp
    (s.zlp.autoMode p.mode (s.after Config.switchTime))

/-- R130: the mode stands, and only its block is looked at. -/
theorem stageMode_of_same {s : State} {p : SetpointRecord}
    (same : s.zlp.activeMode = some (s.wantedMode p)) (e : Entry) :
    s.stageMode p e = (s.modeLooked p).setZlp { (s.modeLooked p).zlp with
      block := blockKept (s.modeLooked p).zlp.block e } :=
  if_pos ((autoMode_activeMode _ _ _).trans same)

/-- R130: the mode changes. -/
theorem stageMode_of_other {s : State} {p : SetpointRecord}
    (other : s.zlp.activeMode ≠ some (s.wantedMode p)) (e : Entry) :
    s.stageMode p e = (s.modeLooked p).changeover (s.wantedMode p) e :=
  if_neg fun same => other ((autoMode_activeMode _ _ _).symm.trans same)

theorem blockKept_eq (b : Option Resource) (e : Entry) :
    blockKept b e = match b with
      | none => none
      | some r => if e.committed.get (otherOf r) = 0 then none else some r := by
  cases b <;> rfl

/-! ### The classes -/

/-- R133: the classes of HEAT and COOL, by the zone's reading and the mode. -/
theorem valveClass_eq (s : State) :
    s.valveClass .cool = (match s.zlp.zone.temp, s.zlp.activeMode with
        | some _, some .heat => s.zlp.ordinaryClass
        | some _, some .cool => s.zlp.ordinaryClass
        | _, _ => .comfort) ∧
      s.valveClass .heat = match s.zlp.zone.temp, s.zlp.activeMode with
        | some x, some .heat =>
          if x < 80 ∨ s.mbr.freezeWake = true then .protection else s.zlp.ordinaryClass
        | some _, some .cool => s.zlp.ordinaryClass
        | _, _ => .comfort := by
  unfold State.valveClass
  rcases s.zlp.zone.temp with _ | x
  · exact ⟨rfl, rfl⟩
  · rcases s.zlp.activeMode with _ | (_ | _ | _ | _) <;> simp

/-- Settles O47: the loop of the active resource (R131, R132), AUTO (R129), the changeover (R130) and the classes (R133). -/
theorem loopStaysWithinRating : Obligations.LoopStaysWithinRating := by
  refine ⟨fun z img m r e valve within => runLoop_within valve within m e,
    fun z img m r e valve => ?_, fun s img => ⟨fun notHeat notCool => ?_,
      fun m r active runs => ?_⟩, fun z mode start => ?_, fun s p e self => ?_, fun s img e => ?_⟩
  · obtain ⟨free, demand⟩ := runLoop_values z img m e valve
    rw [proportional_eq, directed_eq] at demand
    rw [directed_eq] at free
    exact ⟨free, demand, holdsIntegrator_iff z r⟩
  · exact stageLoop_of_idle notHeat notCool img
  · have runs' : m.resource = some r := by rcases runs with ⟨rfl, rfl⟩ | ⟨rfl, rfl⟩ <;> rfl
    exact ⟨fun blind => stageLoop_of_blind active runs' blind img,
      fun e error => stageLoop_of_error active runs' error img⟩
  · refine ⟨fun fixed => autoMode_of_fixed fixed z start, fun auto fresh => ?_,
      fun auto begun runs => ?_, fun auto begun stopped => ?_⟩
    · rw [auto]
      exact autoMode_of_begin fresh start
    · rw [auto]
      exact autoMode_of_timed begun runs start
    · rw [auto]
      exact autoMode_of_error begun stopped start
  · refine ⟨_, keepsFreeze_iff s.mbr.freezeWake s.zlp.zone, ?_⟩
    intro z m used frozen
    have wanted : m = s.wantedMode p := by
      rw [State.wantedMode, activeOf_eq]
      rfl
    have uses : used = (s.wantedMode p).uses := by
      funext r
      rw [uses_eq, ← wanted]
    rw [wanted, uses]
    refine ⟨fun same => ?_, fun other => ?_⟩
    · rw [stageMode_of_same same, blockKept_eq]
      rfl
    · rw [stageMode_of_other other, changeover_eq (by exact self), blockAfter_eq]
      rfl
  · obtain ⟨cool, heat⟩ := valveClass_eq s
    rw [State.stageClasses, cool, heat]
    rfl

end Sys2Proof.Machine
end

section
/-! SUPPORT. Bits, bytes and codes read back: bit stuffing (R65), two-byte values, flags and codes (R67, R70). -/

namespace Sys2Proof.Machine

/-! ### Bit stuffing -/

/-- R65: the receiver drops what the sender inserted, from any run of equal bits. -/
theorem destuffFrom_stuffFrom (bits : List Bool) (last : Bool) (run : Nat) :
    destuffFrom last run (stuffFrom last run bits) = some bits := by
  induction bits generalizing last run with
  | nil => rfl
  | cons b bs ih =>
    unfold stuffFrom
    by_cases due : run = 5
    · by_cases turned : b = !last
      · simp [destuffFrom, due, turned, ih]
      · simp [destuffFrom, due, turned, ih]
    · by_cases same : b = last
      · simp [destuffFrom, due, same, ih]
      · simp [destuffFrom, due, same, ih]

theorem destuff_stuff (bits : List Bool) : destuff (stuff bits) = some bits :=
  destuffFrom_stuffFrom bits true 0

/-! ### Bytes -/

theorem byteOf_toNat (n : Nat) : (byteOf n).toNat = n % 256 := BitVec.toNat_ofNat n 8

theorem byteOf_toNat_of_le {n : Nat} (small : n ≤ 255) : (byteOf n).toNat = n := by
  rw [byteOf_toNat, Nat.mod_eq_of_lt (by omega)]

/-- R67: a two-byte value is read back. -/
theorem be16_byteOf {n : Nat} (small : n ≤ 65535) : be16 (byteOf (n / 256)) (byteOf n) = n := by
  rw [be16, byteOf_toNat, byteOf_toNat]
  omega

/-- R70: a signed two-byte value is read back. -/
theorem signed16_byteOf {z : Int} (low : -32768 ≤ z) (high : z ≤ 32767) :
    signed16 (byteOf (unsigned16 z / 256)) (byteOf (unsigned16 z)) = z := by
  have small : unsigned16 z ≤ 65535 := by unfold unsigned16; omega
  rw [signed16, be16_byteOf small, unsigned16]
  split <;> omega

/-- A two-byte value behind other bytes is read back. -/
theorem be16At_append (before rest : List Byte) {n : Nat} (small : n ≤ 65535) :
    be16At (before ++ bytes16 n ++ rest) before.length = n := by
  have reads : be16At (before ++ bytes16 n ++ rest) before.length =
      be16 (byteOf (n / 256)) (byteOf n) := by
    simp [be16At, byteAt, bytes16, List.getD_eq_getElem?_getD]
  rw [reads, be16_byteOf small]

/-! ### Flags and fields of a byte -/

theorem bit_le (b : Bool) : bit b ≤ 1 := by cases b <;> decide

/-- A flag is read back from the digit it stands at. -/
theorem getLsbD_byteOf {n k : Nat} {b : Bool} (inside : k < 8) (digit : n / 2 ^ k % 2 = bit b) :
    (byteOf n).getLsbD k = b := by
  rw [byteOf, BitVec.getLsbD_ofNat, decide_eq_true inside, Bool.true_and,
    Nat.testBit_eq_decide_div_mod_eq, digit]
  cases b <;> rfl

theorem bitField_byteOf (n lo width : Nat) :
    bitField (byteOf n) lo width = n % 256 / 2 ^ lo % 2 ^ width := by
  rw [bitField, byteOf_toNat]

/-! ### Codes -/

theorem resourceOfCode_code (r : Resource) : resourceOfCode (resourceCode r) = some r := by
  cases r <;> rfl

theorem classOfCode_code (c : ClaimClass) : classOfCode c.code = some c := by cases c <;> rfl

theorem zoneModeOfCode_code (m : ZoneMode) : zoneModeOfCode m.code = m := by cases m <;> rfl

theorem setModeOfCode_code (m : SetMode) : setModeOfCode m.code = some m := by cases m <;> rfl

theorem capacityStateOfCode_code (c : CapacityState) : capacityStateOfCode c.code = some c := by
  cases c <;> rfl

theorem parkDepthOfCode_code (d : ParkDepth) : parkDepthOfCode d.code = some d := by
  cases d <;> rfl

theorem resourceCode_le (r : Resource) : resourceCode r ≤ 2 := by cases r <;> decide

theorem ClaimClass.code_le (c : ClaimClass) : c.code ≤ 2 := by cases c <;> decide

theorem ZoneMode.code_le (m : ZoneMode) : m.code ≤ 3 := by cases m <;> decide

theorem SetMode.code_le (m : SetMode) : m.code ≤ 4 := by cases m <;> decide

theorem CapacityState.code_le (c : CapacityState) : c.code ≤ 2 := by cases c <;> decide

theorem ParkDepth.code_le (d : ParkDepth) : d.code ≤ 1 := by cases d <;> decide

theorem FrameBody.kindCode_le (f : FrameBody) : f.kindCode ≤ 7 := by
  cases f <;> simp [FrameBody.kindCode]

theorem FrameBody.urgency_le (f : FrameBody) : f.urgency ≤ 3 := by
  cases f with
  | request r c before raise demand => exact c.code_le.trans (by decide)
  | _ => simp [FrameBody.urgency]

end Sys2Proof.Machine
end

section
/-! SUPPORT. A frame with a short payload, and a SUPPLY, is read back as it was sent (R67, R70, R72). -/

namespace Sys2Proof.Machine

/-! ### Kinds with a short payload -/

theorem decodePark_payload (d : ParkDepth) {w : Nat} (range : w ≤ 1440) :
    decodePark (FrameBody.park d w).payload = some (.park d w) := by
  have wait : be16At (FrameBody.park d w).payload 1 = w := be16_byteOf (by omega)
  have depth : parkDepthOfCode (byteAt (FrameBody.park d w).payload 0).toNat = some d := by
    refine Eq.trans (congrArg parkDepthOfCode ?_) (parkDepthOfCode_code d)
    exact byteOf_toNat_of_le (d.code_le.trans (by decide))
  rw [decodePark, depth, wait]
  exact (if_neg (not_not_intro rfl)).trans (if_pos range)

/-- R70: the resource of a claim frame. -/
theorem resourceOfCode_byteOf (r : Resource) :
    resourceOfCode (byteOf (resourceCode r)).toNat = some r := by
  rw [byteOf_toNat_of_le ((resourceCode_le r).trans (by decide)), resourceOfCode_code]

theorem decodeRelease_payload (r : Resource) {d : Nat} (range : d ≤ 1023) :
    decodeRelease 0 (FrameBody.release r d).payload = some (.release r d) := by
  have draw : be16At (FrameBody.release r d).payload 1 = d := be16_byteOf (by omega)
  have named : resourceOfCode (byteAt (FrameBody.release r d).payload 0).toNat = some r :=
    resourceOfCode_byteOf r
  rw [decodeRelease, named, draw]
  exact (if_neg (by simp [FrameBody.payload, bytes16])).trans (if_pos range)

theorem decodeRequest_payload (r : Resource) (c : ClaimClass) {before raise demand : Nat}
    (raises : 1 ≤ raise) (fits : before + raise ≤ 1023) (range : demand ≤ 1023) :
    decodeRequest c.code (FrameBody.request r c before raise demand).payload =
      some (.request r c before raise demand) := by
  have draw : be16At (FrameBody.request r c before raise demand).payload 1 = before :=
    be16_byteOf (by omega)
  have step : be16At (FrameBody.request r c before raise demand).payload 3 = raise :=
    be16_byteOf (by omega)
  have wanted : be16At (FrameBody.request r c before raise demand).payload 5 = demand :=
    be16_byteOf (by omega)
  have named : resourceOfCode (byteAt (FrameBody.request r c before raise demand).payload 0).toNat =
      some r := resourceOfCode_byteOf r
  rw [decodeRequest, classOfCode_code, named, draw, step, wanted]
  exact (if_neg (not_not_intro rfl)).trans (if_pos ⟨by omega, fits, range⟩)

theorem decodeSetpoint_payload {v e o : Nat} (m : SetMode) (low : 160 ≤ v) (high : v ≤ 300)
    (epoch : e ≤ 65535) (origin : o ≤ 62) :
    decodeSetpoint o (FrameBody.setpoint v m e o).payload = some (.setpoint v m e o) := by
  have value : be16At (FrameBody.setpoint v m e o).payload 0 = v := be16_byteOf (by omega)
  have time : be16At (FrameBody.setpoint v m e o).payload 3 = e := be16_byteOf epoch
  have from' : (byteAt (FrameBody.setpoint v m e o).payload 5).toNat = o :=
    byteOf_toNat_of_le (by omega)
  have mode : setModeOfCode (byteAt (FrameBody.setpoint v m e o).payload 2).toNat = some m := by
    refine Eq.trans (congrArg setModeOfCode ?_) (setModeOfCode_code m)
    exact byteOf_toNat_of_le (m.code_le.trans (by decide))
  rw [decodeSetpoint, mode, value, time, from']
  exact (if_neg (not_not_intro rfl)).trans (if_pos ⟨low, high, rfl⟩)

theorem decodeJoin_payload {w : Nat} (low : 1 ≤ w) (high : w ≤ 15) :
    decodeJoin (FrameBody.join w).payload = some (.join w) := by
  have weight : bitField (byteAt (FrameBody.join w).payload 0) 0 4 = w := by
    refine (bitField_byteOf w 0 4).trans ?_
    omega
  rw [decodeJoin, weight]
  exact if_pos ⟨rfl, by omega⟩

/-! ### SUPPLY -/

/-- R70: the resources a SUPPLY names, in payload order. -/
def suppliedNames (values : Per (Option Nat)) : List Resource :=
  resources.filter fun r => (values.get r).isSome

theorem mem_suppliedNames (values : Per (Option Nat)) (r : Resource) :
    r ∈ suppliedNames values ↔ (values.get r).isSome = true := by
  rw [suppliedNames, List.mem_filter]
  exact and_iff_right (by cases r <;> decide)

/-- R70: the mask and the fallback flag of a SUPPLY. -/
def supplyMask (fallback : Bool) (values : Per (Option Nat)) : Byte :=
  byteOf (bit fallback * 128 + bit values.power.isSome * 4 + bit values.heat.isSome * 2 +
    bit values.cool.isSome)

theorem supplyMask_bits (fallback : Bool) (values : Per (Option Nat)) :
    (supplyMask fallback values).getLsbD 7 = fallback ∧
      (supplyMask fallback values).getLsbD 0 = values.cool.isSome ∧
      (supplyMask fallback values).getLsbD 1 = values.heat.isSome ∧
      (supplyMask fallback values).getLsbD 2 = values.power.isSome := by
  have flag := bit_le fallback
  have cool := bit_le values.cool.isSome
  have heat := bit_le values.heat.isSome
  have power := bit_le values.power.isSome
  exact ⟨getLsbD_byteOf (by decide) (by omega), getLsbD_byteOf (by decide) (by omega),
    getLsbD_byteOf (by decide) (by omega), getLsbD_byteOf (by decide) (by omega)⟩

theorem namedBy_supplyMask (fallback : Bool) (values : Per (Option Nat)) :
    namedBy (supplyMask fallback values) = suppliedNames values := by
  obtain ⟨-, cool, heat, power⟩ := supplyMask_bits fallback values
  rw [namedBy, cool, heat, power]
  simp only [suppliedNames, resources, List.filter_cons, List.filter_nil, Per.get]
  split <;> split <;> split <;> rfl

/-- R70: the values of the named resources, as they are sent. -/
def sentValues (values : Per (Option Nat)) (names : List Resource) : List Byte :=
  names.flatMap fun r => valueBytes (values.get r)

theorem supply_payload (fallback : Bool) (values : Per (Option Nat)) :
    (FrameBody.supply fallback values).payload =
      supplyMask fallback values :: sentValues values (suppliedNames values) := by
  obtain ⟨cool, heat, power⟩ := values
  refine congrArg (_ :: ·) ?_
  rcases cool with _ | cool <;> rcases heat with _ | heat <;> rcases power with _ | power <;> rfl

theorem sentValues_length {values : Per (Option Nat)} {names : List Resource}
    (given : ∀ r ∈ names, (values.get r).isSome = true) :
    (sentValues values names).length = 2 * names.length := by
  induction names with
  | nil => rfl
  | cons r rs ih =>
    obtain ⟨v, value⟩ := Option.isSome_iff_exists.mp (given r List.mem_cons_self)
    have rest := ih fun x member => given x (List.mem_cons_of_mem r member)
    rw [sentValues, List.flatMap_cons, List.length_append, value, ← sentValues, rest,
      List.length_cons]
    show 2 + _ = _
    omega

/-- R70: reading the named values gives what was sent; the others stand. -/
theorem readValues_sentValues {values : Per (Option Nat)} {names : List Resource}
    (given : ∀ r ∈ names, (values.get r).isSome = true)
    (range : ∀ r v, values.get r = some v → v ≤ 1023) (before : List Byte)
    (acc : Per (Option Nat)) (x : Resource) :
    (readValues (before ++ sentValues values names) names before.length acc).get x =
      if x ∈ names then values.get x else acc.get x := by
  induction names generalizing before acc with
  | nil => rfl
  | cons r rs ih =>
    obtain ⟨v, value⟩ := Option.isSome_iff_exists.mp (given r List.mem_cons_self)
    have split : before ++ sentValues values (r :: rs) =
        (before ++ bytes16 v) ++ sentValues values rs := by
      rw [sentValues, List.flatMap_cons, value, List.append_assoc]
      rfl
    have read : be16At ((before ++ bytes16 v) ++ sentValues values rs) before.length = v :=
      be16At_append before _ ((range r v value).trans (by decide))
    have next := ih (fun y member => given y (List.mem_cons_of_mem r member))
      (before ++ bytes16 v) (acc.set r (some v))
    rw [List.length_append] at next
    rw [split, readValues, read]
    refine next.trans ?_
    by_cases own : x = r
    · subst own
      by_cases later : x ∈ rs <;> simp [later, value]
    · have elsewhere : x ∈ r :: rs ↔ x ∈ rs := List.mem_cons.trans (or_iff_right own)
      rw [Per.get_set_other acc (some v) own]
      exact (if_congr elsewhere rfl rfl).symm

theorem Per.ext_get {α : Type} {p q : Per α} (same : ∀ r, p.get r = q.get r) : p = q := by
  obtain ⟨cool, heat, power⟩ := p
  obtain ⟨cool', heat', power'⟩ := q
  exact congr (congr (congrArg Per.mk (same .cool)) (same .heat)) (same .power)

/-- R70: the values a receiver reads from a SUPPLY. -/
theorem readValues_supply (fallback : Bool) {values : Per (Option Nat)}
    (range : ∀ r v, values.get r = some v → v ≤ 1023) :
    readValues (FrameBody.supply fallback values).payload (suppliedNames values) 1 (.all none) =
      values := by
  refine Per.ext_get fun r => ?_
  rw [supply_payload]
  refine (readValues_sentValues (fun x => (mem_suppliedNames values x).mp) range
    [supplyMask fallback values] (.all none) r).trans ?_
  split
  · rfl
  · next unnamed =>
    rw [mem_suppliedNames, Bool.not_eq_true, Option.isSome_eq_false_iff,
      Option.isNone_iff_eq_none] at unnamed
    rw [unnamed]
    cases r <;> rfl

theorem decodeSupply_payload (fallback : Bool) {values : Per (Option Nat)}
    (some' : ∃ r, values.get r ≠ none) (range : ∀ r v, values.get r = some v → v ≤ 1023) :
    decodeSupply (FrameBody.supply fallback values).payload = some (.supply fallback values) := by
  have head : byteAt (FrameBody.supply fallback values).payload 0 = supplyMask fallback values :=
    rfl
  have nonempty : suppliedNames values ≠ [] := by
    obtain ⟨r, present⟩ := some'
    exact List.ne_nil_of_mem ((mem_suppliedNames values r).mpr (Option.isSome_iff_ne_none.mpr present))
  have length : (FrameBody.supply fallback values).payload.length =
      1 + 2 * (suppliedNames values).length := by
    rw [supply_payload, List.length_cons,
      sentValues_length fun x => (mem_suppliedNames values x).mp, Nat.add_comm]
  have bounded : resources.all (fun r => (values.get r).all fun v => decide (v ≤ 1023)) = true := by
    rw [List.all_eq_true]
    intro r _
    cases value : values.get r with
    | none => rfl
    | some v => exact decide_eq_true (range r v value)
  rw [decodeSupply, head, namedBy_supplyMask, readValues_supply fallback range,
    (supplyMask_bits fallback values).1]
  exact (if_neg nonempty).trans ((if_neg (not_not_intro length)).trans (if_pos bounded))

end Sys2Proof.Machine
end

section
/-! PROOF. A STATE, and so a frame of any kind, is read back as it was sent (R65, R67, R70, R72). -/

namespace Sys2Proof.Machine

/-! ### The bytes of a STATE -/

/-- R70: the first byte of a STATE: its three flags and its weight. -/
def stateFlags (c : StateContent) : Nat :=
  bit c.member * 64 + bit c.outdoor.isSome * 32 + bit c.zone.isSome * 16 + c.weight

/-- R70: the zone's mode code, 0 while it has none. -/
def zoneCode (c : StateContent) : Nat :=
  match c.zone with
  | some z => z.mode.code
  | none => 0

/-- R70: the second byte of a STATE: the shed flag and the two modes. -/
def stateModes (c : StateContent) : Nat := bit c.shed * 128 + c.setMode.code * 4 + zoneCode c

/-- R70: the three capacity states of a STATE. -/
def stateCapacities (c : StateContent) : Nat :=
  c.capacityState.power.code * 16 + c.capacityState.heat.code * 4 + c.capacityState.cool.code

/-- R71: the zone's temperature as sent, 0 while it has none. -/
def zoneTemp (c : StateContent) : Nat :=
  match c.zone with
  | some z => unsigned16 z.temp
  | none => 0

/-- R70: the bytes every STATE has. -/
def stateBytes (c : StateContent) : List Byte :=
  [stateFlags c, stateModes c, c.committed.cool / 256, c.committed.cool, c.committed.heat / 256,
    c.committed.heat, c.committed.power / 256, c.committed.power, c.demand.cool / 256,
    c.demand.cool, c.demand.heat / 256, c.demand.heat, c.demand.power / 256, c.demand.power,
    c.floor.cool, c.floor.heat, c.floor.power, c.capacity.cool / 256, c.capacity.cool,
    c.capacity.heat / 256, c.capacity.heat, c.capacity.power / 256, c.capacity.power,
    stateCapacities c, zoneTemp c / 256, zoneTemp c, c.setpointValue / 256, c.setpointValue,
    c.setpointEpoch / 256, c.setpointEpoch, c.setpointOrigin].map byteOf

/-- R70: the bytes of the outdoor reading. -/
def outdoorBytes (c : StateContent) : List Byte :=
  match c.outdoor with
  | some o => bytes16 (unsigned16 o.temp) ++ [byteOf o.age]
  | none => []

theorem encodeState_eq (c : StateContent) : encodeState c = stateBytes c ++ outdoorBytes c := by
  simp only [encodeState, stateBytes, bytes16, List.map_cons, List.map_nil, List.cons_append,
    List.nil_append, stateFlags, stateModes, stateCapacities, zoneCode, zoneTemp, outdoorBytes] <;>
    rfl

theorem zoneCode_le (c : StateContent) : zoneCode c ≤ 3 := by
  rw [zoneCode]
  split
  · exact ZoneMode.code_le _
  · exact Nat.zero_le 3

/-- R70: what the first byte says. -/
theorem stateFlags_bits {c : StateContent} (range : c.InRange) :
    (byteAt (encodeState c) 0).getLsbD 6 = c.member ∧
      (byteAt (encodeState c) 0).getLsbD 5 = c.outdoor.isSome ∧
      (byteAt (encodeState c) 0).getLsbD 4 = c.zone.isSome ∧
      bitField (byteAt (encodeState c) 0) 0 4 = c.weight := by
  obtain ⟨-, high, -⟩ := range
  have head : byteAt (encodeState c) 0 = byteOf (stateFlags c) := by
    rw [encodeState_eq]
    rfl
  have member := bit_le c.member
  have outdoor := bit_le c.outdoor.isSome
  have zone := bit_le c.zone.isSome
  rw [head, bitField_byteOf]
  refine ⟨getLsbD_byteOf (by decide) ?_, getLsbD_byteOf (by decide) ?_,
    getLsbD_byteOf (by decide) ?_, ?_⟩ <;> unfold stateFlags <;> omega

/-- R70: what the second byte says. -/
theorem stateModes_bits (c : StateContent) :
    (byteAt (encodeState c) 1).getLsbD 7 = c.shed ∧
      bitField (byteAt (encodeState c) 1) 2 3 = c.setMode.code ∧
      bitField (byteAt (encodeState c) 1) 0 2 = zoneCode c := by
  have second : byteAt (encodeState c) 1 = byteOf (stateModes c) := by
    rw [encodeState_eq]
    rfl
  have shed := bit_le c.shed
  have mode := c.setMode.code_le
  have zone := zoneCode_le c
  rw [second, bitField_byteOf, bitField_byteOf]
  refine ⟨getLsbD_byteOf (by decide) ?_, ?_, ?_⟩ <;> unfold stateModes <;> omega

/-- R70: what the capacity byte says. -/
theorem stateCapacities_fields (c : StateContent) :
    bitField (byteAt (encodeState c) 23) 0 2 = c.capacityState.cool.code ∧
      bitField (byteAt (encodeState c) 23) 2 2 = c.capacityState.heat.code ∧
      bitField (byteAt (encodeState c) 23) 4 2 = c.capacityState.power.code := by
  have byte : byteAt (encodeState c) 23 = byteOf (stateCapacities c) := by
    rw [encodeState_eq]
    rfl
  have cool := c.capacityState.cool.code_le
  have heat := c.capacityState.heat.code_le
  have power := c.capacityState.power.code_le
  rw [byte, bitField_byteOf, bitField_byteOf, bitField_byteOf]
  refine ⟨?_, ?_, ?_⟩ <;> unfold stateCapacities <;> omega

/-- R70: the amounts of a STATE. -/
theorem state_amounts {c : StateContent} (range : c.InRange) :
    (⟨be16At (encodeState c) 2, be16At (encodeState c) 4, be16At (encodeState c) 6⟩ : Per Nat) =
        c.committed ∧
      (⟨be16At (encodeState c) 8, be16At (encodeState c) 10, be16At (encodeState c) 12⟩ : Per Nat) =
        c.demand ∧
      (⟨(byteAt (encodeState c) 14).toNat, (byteAt (encodeState c) 15).toNat,
        (byteAt (encodeState c) 16).toNat⟩ : Per Nat) = c.floor ∧
      (⟨be16At (encodeState c) 17, be16At (encodeState c) 19, be16At (encodeState c) 21⟩ : Per Nat) =
        c.capacity := by
  obtain ⟨-, -, amounts, -⟩ := range
  have wide {n : Nat} (small : n ≤ 1023) : be16 (byteOf (n / 256)) (byteOf n) = n :=
    be16_byteOf (small.trans (by decide))
  rw [encodeState_eq]
  refine ⟨Per.ext_get fun r => ?_, Per.ext_get fun r => ?_, Per.ext_get fun r => ?_,
    Per.ext_get fun r => ?_⟩
  · have small := (amounts r).1
    cases r <;> exact wide small
  · have small := (amounts r).2.1
    cases r <;> exact wide small
  · have small := (amounts r).2.2.1
    cases r <;> exact byteOf_toNat_of_le small
  · have small := (amounts r).2.2.2
    cases r <;> exact wide small

/-- R70: the setpoint of a STATE. -/
theorem state_setpoint {c : StateContent} (range : c.InRange) :
    be16At (encodeState c) 26 = c.setpointValue ∧ be16At (encodeState c) 28 = c.setpointEpoch ∧
      (byteAt (encodeState c) 30).toNat = c.setpointOrigin := by
  obtain ⟨-, -, -, -, -, high, epoch, origin, -⟩ := range
  rw [encodeState_eq]
  exact ⟨be16_byteOf (high.trans (by decide)), be16_byteOf epoch, byteOf_toNat_of_le origin⟩

/-- R70, R71: the zone fields of a STATE. -/
theorem stateZone_encode {c : StateContent} (range : c.InRange) :
    stateZone (encodeState c) = c.zone := by
  obtain ⟨-, -, flag, -⟩ := stateFlags_bits range
  obtain ⟨-, -, mode⟩ := stateModes_bits c
  obtain ⟨-, -, -, zones, -⟩ := range
  rw [stateZone, flag, mode]
  cases zone : c.zone with
  | none => rfl
  | some z =>
    obtain ⟨low, high⟩ := zones z zone
    have sent : zoneTemp c = unsigned16 z.temp := by rw [zoneTemp, zone]
    have temp : signed16At (encodeState c) 24 = z.temp := by
      refine Eq.trans ?_ (signed16_byteOf low high)
      rw [encodeState_eq, ← sent]
      rfl
    have code : zoneCode c = z.mode.code := by rw [zoneCode, zone]
    rw [temp, code, zoneModeOfCode_code]
    rfl

/-- R70, R71: the outdoor reading of a STATE. -/
theorem stateOutdoor_encode {c : StateContent} (range : c.InRange) :
    stateOutdoor (encodeState c) = c.outdoor := by
  obtain ⟨-, flag, -, -⟩ := stateFlags_bits range
  obtain ⟨-, -, -, -, -, -, -, -, -, outdoors⟩ := range
  rw [stateOutdoor, flag]
  cases outdoor : c.outdoor with
  | none => rfl
  | some o =>
    obtain ⟨low, high, old⟩ := outdoors o outdoor
    have sent : outdoorBytes c = bytes16 (unsigned16 o.temp) ++ [byteOf o.age] := by
      rw [outdoorBytes, outdoor]
    have temp : signed16At (encodeState c) 31 = o.temp := by
      refine Eq.trans ?_ (signed16_byteOf low high)
      rw [encodeState_eq, sent]
      rfl
    have age : (byteAt (encodeState c) 33).toNat = o.age := by
      refine Eq.trans ?_ (byteOf_toNat_of_le old)
      rw [encodeState_eq, sent]
      rfl
    rw [temp, age]
    rfl

theorem encodeState_length (c : StateContent) :
    (encodeState c).length = if c.outdoor.isSome then 34 else 31 := by
  rw [encodeState_eq, outdoorBytes]
  cases c.outdoor <;> rfl

/-- R72: a STATE in range passes the receiver's tests. -/
theorem stateInRange_encode {c : StateContent} (range : c.InRange) :
    stateInRange (encodeState c) = true := by
  obtain ⟨-, -, -, weight⟩ := stateFlags_bits range
  obtain ⟨committed, demand, -, capacity⟩ := state_amounts range
  obtain ⟨value, -, origin⟩ := state_setpoint range
  obtain ⟨heavy, -, amounts, -, low, high, -, -, named, -⟩ := range
  have amount (r : Resource) := amounts r
  rw [← committed, ← demand, ← capacity] at amount
  obtain ⟨c0, d0, -, k0⟩ := amount .cool
  obtain ⟨c1, d1, -, k1⟩ := amount .heat
  obtain ⟨c2, d2, -, k2⟩ := amount .power
  simp only [stateInRange, weight, value, origin, Bool.and_eq_true, decide_eq_true_iff]
  exact ⟨⟨⟨⟨⟨⟨⟨⟨⟨⟨⟨⟨by omega, c0⟩, c1⟩, c2⟩, d0⟩, d1⟩, d2⟩, k0⟩, k1⟩, k2⟩, low⟩, high⟩, named⟩

theorem decodeState_encode {c : StateContent} (range : c.InRange) :
    decodeState (encodeState c) = some (.state c) := by
  obtain ⟨member, outdoor, -, weight⟩ := stateFlags_bits range
  obtain ⟨shed, mode, -⟩ := stateModes_bits c
  obtain ⟨cool, heat, power⟩ := stateCapacities_fields c
  obtain ⟨committed, demand, floor, capacity⟩ := state_amounts range
  obtain ⟨value, epoch, origin⟩ := state_setpoint range
  rw [decodeState, outdoor, ← encodeState_length, if_neg (not_not_intro rfl),
    stateInRange_encode range, mode, setModeOfCode_code, cool, heat, power,
    capacityStateOfCode_code, capacityStateOfCode_code, capacityStateOfCode_code, member, shed,
    weight, committed, demand, floor, capacity, value, epoch, origin, stateZone_encode range,
    stateOutdoor_encode range]
  rfl

/-! ### Any frame -/

/-- R67: the fields of the arbitration are read back. -/
theorem decodeFrame_sent (f : FrameBody) {source : Nat} (high : source ≤ 62) :
    decodeFrame f.kind (f.sent source) = decodeFields f.kindCode f.urgency source f.payload := by
  have kind : f.kind.toNat = f.kindCode :=
    (BitVec.toNat_ofNat f.kindCode 3).trans (Nat.mod_eq_of_lt (Nat.lt_succ_of_le f.kindCode_le))
  have urgency : (f.sent source).urgency.toNat = f.urgency :=
    (BitVec.toNat_ofNat f.urgency 2).trans (Nat.mod_eq_of_lt (Nat.lt_succ_of_le f.urgency_le))
  have from' : (f.sent source).source.toNat = source :=
    (BitVec.toNat_ofNat source 6).trans (Nat.mod_eq_of_lt (by omega))
  rw [decodeFrame, kind, urgency, from']
  rfl

/-- R72: a station's own frames pass the tests every kind shares. -/
theorem arbitrationOk_sent (f : FrameBody) {source : Nat} (low : 1 ≤ source)
    (high : source ≤ 62) : arbitrationOk f.kindCode f.urgency source = true := by
  have first : source ≠ 0 := by omega
  have last : source ≠ 63 := by omega
  rw [arbitrationOk, decide_eq_true first, decide_eq_true last]
  cases f <;> rfl

/-- R70, R72: the content of a frame is read back. -/
theorem decodeFields_sent {f : FrameBody} {source : Nat} (low : 1 ≤ source) (high : source ≤ 62)
    (range : f.InRange source) :
    decodeFields f.kindCode f.urgency source f.payload = some f := by
  have passes : ¬(!arbitrationOk f.kindCode f.urgency source) = true := by
    rw [arbitrationOk_sent f low high]
    exact Bool.false_ne_true
  refine (if_neg passes).trans ?_
  cases f with
  | park d w => exact decodePark_payload d range
  | wake => rfl
  | supply fallback values => exact decodeSupply_payload fallback range.1 range.2
  | release r d => exact decodeRelease_payload r range
  | request r c before raise demand =>
    exact decodeRequest_payload r c range.1 range.2.1 range.2.2
  | setpoint v m e o =>
    obtain ⟨above, below, epoch, rfl⟩ := range
    exact decodeSetpoint_payload m above below epoch high
  | state c => exact decodeState_encode range
  | join w => exact decodeJoin_payload range.1 range.2

/-- Settles O17: the stuffing, the fields and the check, each read back. -/
theorem framesReadBack : Obligations.FramesReadBack :=
  ⟨destuff_stuff, fun f _ low high range =>
    ⟨(decodeFrame_sent f high).trans (decodeFields_sent low high range), decide_eq_true rfl,
      destuff_stuff _⟩⟩

end Sys2Proof.Machine
end

section
/-! SUPPORT. The stages of the control interval one by one (R126): fault states, frost guard, economiser, ceilings, blower and POWER, caps and interlock. -/

namespace Sys2Proof.Machine

/-! ### Stage 1 -/

/-- R124: a SENSOR_FAULT, as it waits to be entered. -/
def State.faultRaised (s : State) (code : Nat) : Raised :=
  { origin := { block := .zlp, slot := code }
    record := s.event .sensorFault none none (some code) }

/-- R124: the SENSOR_FAULT events of an interval, as they wait to be entered. -/
def State.faultsRaised (s : State) (img : Image) : List Raised :=
  (if s.zlp.zone.bad && !s.zlp.zoneFault then [s.faultRaised 1] else []) ++
  (if s.zlp.discharge.bad && !s.zlp.dischargeFault then [s.faultRaised 2] else []) ++
  if img.outdoorPresent && s.zlp.outdoor.bad && !s.zlp.outdoorFault then [s.faultRaised 3] else []

theorem faultsRaised_records (s : State) (img : Image) :
    (s.faultsRaised img).map (·.record) = s.faultEvents img := by
  have each (p : Bool) (code : Nat) :
      (if p then [s.faultRaised code] else []).map (·.record) =
        if p then [s.event .sensorFault none none (some code)] else [] := by
    cases p <;> rfl
  rw [State.faultsRaised, List.map_append, List.map_append, each, each, each]
  rfl

theorem raiseFault_eq (s : State) (was now : Bool) (code : Nat) :
    s.raiseFault was now code =
      s.setRaised (s.raised ++ if now && !was then [s.faultRaised code] else []) := by
  unfold State.raiseFault
  cases now && !was with
  | true => rfl
  | false =>
    rw [if_neg Bool.false_ne_true, if_neg Bool.false_ne_true, List.append_nil]
    rfl

/-- R97: two forced RELEASEs to 0, one after the other. -/
theorem forceRelease_two {s : State} {e : Entry} (self : s.stb.self = some e) (a b : Resource) :
    (s.forceRelease a 0).forceRelease b 0 = s.setTxq (s.txq.releasing e [a, b]) := by
  rw [forceRelease_zero self a, forceRelease_zero (s := s.setTxq _) (by exact self) b,
    State.setTxq_txq, ← releasing_append]
  rfl

/-- R139: the forced releases at the onset of a return-air fault. -/
theorem returnFaultRelease_eq {s : State} {e : Entry} (self : s.stb.self = some e)
    (was now : Bool) :
    s.returnFaultRelease was now = s.setTxq
      (if now = true ∧ was = false then s.txq.releasing e [.heat, .cool] else s.txq) := by
  unfold State.returnFaultRelease
  by_cases onset : now = true ∧ was = false
  · rw [if_pos onset, onset.1, onset.2]
    exact (if_pos rfl).trans (forceRelease_two self .heat .cool)
  · rw [if_neg onset]
    refine if_neg fun begins => onset ?_
    rw [Bool.and_eq_true, Bool.not_eq_true'] at begins
    exact begins

/-- R124: the fault states an interval sets. -/
def ZoneLoop.faulted (z : ZoneLoop) (img : Image) : ZoneLoop :=
  { z with zoneFault := z.zone.bad, dischargeFault := z.discharge.bad
           outdoorFault := img.outdoorPresent && z.outdoor.bad }

/-- R124, R139: stage 1 sets the fault states, raises their events, and asks for the releases. -/
theorem stageFaults_eq {s : State} {e : Entry} (self : s.stb.self = some e) (img : Image) :
    s.stageFaults img = ((s.setZlp (s.zlp.faulted img)).setRaised
      (s.raised ++ s.faultsRaised img)).setTxq
        (if s.zlp.zone.bad = true ∧ s.zlp.zoneFault = false
          then s.txq.releasing e [.heat, .cool] else s.txq) := by
  rw [State.stageFaults, returnFaultRelease_eq (e := e) (by rw [raiseFault_eq, raiseFault_eq, raiseFault_eq]; exact self),
    raiseFault_eq, raiseFault_eq, raiseFault_eq, State.faultsRaised, ← List.append_assoc,
    ← List.append_assoc]
  rfl

/-! ### Stage 5 -/

theorem Reading.temp_eq_some_iff (x : Reading) (t : Int) : x.temp = some t ↔ x = .valid t := by
  cases x <;> simp [Reading.temp]

/-- R136: what frost is. -/
theorem frost_iff (z : ZoneLoop) :
    z.frost = true ↔ z.dischargeFault = true ∨ ∃ x, z.discharge = .valid x ∧ x < 20 := by
  rw [ZoneLoop.frost, Bool.or_eq_true]
  refine or_congr Iff.rfl ?_
  cases z.discharge <;> simp [Reading.temp]

/-- R137: when the economiser acts. -/
theorem economises_iff (s : State) :
    s.economises = true ↔ s.zlp.activeMode = some .cool ∧
      ∃ o z, s.stb.usableOutdoor = some o ∧ s.zlp.zone = .valid z ∧ o ≤ z - 30 := by
  simp only [← Reading.temp_eq_some_iff]
  unfold State.economises
  split
  · next active outdoor zone => simp [active, outdoor, zone]
  · next other =>
    refine iff_of_false Bool.false_ne_true ?_
    rintro ⟨active, o, z, outdoor, zone, -⟩
    exact other o z active outdoor zone

/-- R136: the frost timer after an interval's look. -/
def State.frostTimed (s : State) : Timer :=
  if s.zlp.frost then some (s.clock + Config.frostTime) else s.zlp.frostTimer

/-- R136: frost starts or restarts the timer; its start releases COOL. -/
theorem frostSeen_eq {s : State} {e : Entry} (self : s.stb.self = some e) :
    s.frostSeen e = (s.setZlp { s.zlp with frostTimer := s.frostTimed }).setTxq
      (if s.zlp.frost = true ∧ s.zlp.frostTimer = none ∧ 0 < e.committed.cool
        then s.txq.ask (.claim .cool (.release 0)) else s.txq) := by
  by_cases frost : s.zlp.frost = true
  · have timer : s.frostTimed = s.after Config.frostTime := if_pos frost
    rw [timer]
    refine (if_pos frost).trans ?_
    by_cases starts : s.zlp.frostTimer = none ∧ 0 < e.committed.cool
    · have onset : s.zlp.frost = true ∧ s.zlp.frostTimer = none ∧ 0 < e.committed.cool :=
        ⟨frost, starts⟩
      rw [if_pos onset, starts.1, decide_eq_true starts.2]
      refine (if_pos rfl).trans ?_
      rw [State.forceRelease, State.setZlp_stb, self]
      exact if_pos starts.2
    · have runs : ¬(s.zlp.frost = true ∧ s.zlp.frostTimer = none ∧ 0 < e.committed.cool) :=
        fun onset => starts onset.2
      rw [if_neg runs]
      refine if_neg fun both => starts ?_
      rw [Bool.and_eq_true, Option.isNone_iff_eq_none, decide_eq_true_iff] at both
      exact both
  · have timer : s.frostTimed = s.zlp.frostTimer := if_neg frost
    have clear : ¬(s.zlp.frost = true ∧ s.zlp.frostTimer = none ∧ 0 < e.committed.cool) :=
      fun onset => frost onset.1
    rw [timer, if_neg clear]
    exact if_neg frost

/-- R136: while the timer runs, COOL is 0. -/
theorem frostGuarded_eq (z : ZoneLoop) :
    z.frostGuarded = { z with
      integCool := if z.frostTimer.isSome then 0 else z.integCool
      demand := { z.demand with cool := if z.frostTimer.isSome then 0 else z.demand.cool } } := by
  unfold ZoneLoop.frostGuarded
  cases z.frostTimer.isSome <;> rfl

/-- R137: the economiser halves the COOL demand. -/
theorem stageFrost_of_seen (s : State) (e : Entry) :
    s.stageFrost e = ((s.frostSeen e).setZlp { (s.frostSeen e).zlp.frostGuarded with
      demand := { (s.frostSeen e).zlp.frostGuarded.demand with
        cool := if ((s.frostSeen e).setZlp (s.frostSeen e).zlp.frostGuarded).economises
          then (s.frostSeen e).zlp.frostGuarded.demand.cool / 2
          else (s.frostSeen e).zlp.frostGuarded.demand.cool } }) := by
  unfold State.stageFrost
  dsimp only
  cases ((s.frostSeen e).setZlp (s.frostSeen e).zlp.frostGuarded).economises <;> rfl

/-- R136, R137: stage 5. -/
theorem stageFrost_eq {s : State} {e : Entry} (self : s.stb.self = some e) :
    s.stageFrost e = (s.setZlp { s.zlp with
      frostTimer := s.frostTimed
      integCool := if s.frostTimed.isSome then 0 else s.zlp.integCool
      demand := { s.zlp.demand with
        cool := if s.economises then (if s.frostTimed.isSome then 0 else s.zlp.demand.cool) / 2
                else if s.frostTimed.isSome then 0 else s.zlp.demand.cool } }).setTxq
      (if s.zlp.frost = true ∧ s.zlp.frostTimer = none ∧ 0 < e.committed.cool
        then s.txq.ask (.claim .cool (.release 0)) else s.txq) := by
  rw [stageFrost_of_seen, frostGuarded_eq, frostSeen_eq self]
  rfl

/-! ### The damper's target -/

/-- R137, R139: the damper target of an interval. -/
theorem damperTarget_eq (s : State) (img : Image) :
    s.damperTarget img =
      if s.zlp.zone.temp = none ∨ s.zlp.activeMode = some .off then 0
      else if s.economises then img.travel else img.travel * img.minFresh / 1000 := by
  rw [State.damperTarget]
  refine if_congr (or_congr ?_ Iff.rfl) rfl rfl
  rw [Reading.bad, Option.isNone_iff_eq_none]

/-! ### The outdoor reading -/

/-- R20: the reading an entry offers. -/
def Entry.offered (e : Entry) : Option OutdoorReading := if e.present then e.outdoor else none

theorem offered_eq_some_iff (e : Entry) (o : OutdoorReading) :
    e.offered = some o ↔ e.present = true ∧ e.outdoor = some o := by
  rw [Entry.offered]
  cases e.present <;> simp

/-- R20: the peers' reading is the youngest offered. -/
theorem peerOutdoor_le {es : List Entry} {e : Entry} {o : OutdoorReading} (member : e ∈ es)
    (offers : e.offered = some o) : ∃ best, peerOutdoor es = some best ∧ best.age ≤ o.age := by
  induction es with
  | nil => cases member
  | cons x xs ih =>
    show ∃ best, betterOutdoor x.offered (peerOutdoor xs) = some best ∧ best.age ≤ o.age
    rcases List.mem_cons.mp member with rfl | later
    · rw [offers]
      cases peerOutdoor xs with
      | none => exact ⟨o, rfl, Nat.le_refl _⟩
      | some b =>
        by_cases younger : b.age < o.age
        · exact ⟨b, if_pos younger, younger.le⟩
        · exact ⟨o, if_neg younger, Nat.le_refl _⟩
    · obtain ⟨b, rest, le⟩ := ih later
      rw [rest]
      cases x.offered with
      | none => exact ⟨b, rfl, le⟩
      | some a =>
        by_cases younger : b.age < a.age
        · exact ⟨b, if_pos younger, le⟩
        · exact ⟨a, if_neg younger, (Nat.le_of_not_lt younger).trans le⟩

/-- R20: the reading of smallest age, the first such from the head. -/
def BestOutdoor (es : List Entry) (o : OutdoorReading) : Prop :=
  ∃ before e after, es = before ++ e :: after ∧ e.offered = some o ∧
    (∀ x ∈ before, ∀ o', x.offered = some o' → o.age < o'.age) ∧
    ∀ x ∈ after, ∀ o', x.offered = some o' → o.age ≤ o'.age

theorem bestOutdoor_head {x : Entry} {xs : List Entry} {o : OutdoorReading}
    (mine : x.offered = some o) (rest : ∀ b, peerOutdoor xs = some b → o.age ≤ b.age) :
    BestOutdoor (x :: xs) o := by
  refine ⟨[], x, xs, rfl, mine, fun y member => absurd member List.not_mem_nil,
    fun y member o' offers => ?_⟩
  obtain ⟨b, youngest, le⟩ := peerOutdoor_le member offers
  exact (rest b youngest).trans le

theorem bestOutdoor_tail {x : Entry} {xs : List Entry} {o : OutdoorReading}
    (rest : BestOutdoor xs o) (older : ∀ a, x.offered = some a → o.age < a.age) :
    BestOutdoor (x :: xs) o := by
  obtain ⟨before, e, after, split, offers, ahead, behind⟩ := rest
  refine ⟨x :: before, e, after, congrArg (x :: ·) split, offers, fun y member => ?_, behind⟩
  rcases List.mem_cons.mp member with rfl | member
  · exact older
  · exact ahead y member

/-- R20: the peers' reading is the best. -/
theorem bestOutdoor_of_peerOutdoor {es : List Entry} {o : OutdoorReading}
    (best : peerOutdoor es = some o) : BestOutdoor es o := by
  induction es with
  | nil => cases best
  | cons x xs ih =>
    change betterOutdoor x.offered (peerOutdoor xs) = some o at best
    cases mine : x.offered with
    | none =>
      rw [mine] at best
      refine bestOutdoor_tail (ih best) fun a offers => ?_
      rw [mine] at offers
      cases offers
    | some a =>
      cases rest : peerOutdoor xs with
      | none =>
        rw [mine, rest] at best
        refine bestOutdoor_head (mine.trans best) fun b youngest => ?_
        rw [rest] at youngest
        cases youngest
      | some b =>
        rw [mine, rest] at best
        by_cases younger : b.age < a.age
        · obtain rfl : b = o := Option.some.inj ((if_pos younger).symm.trans best)
          refine bestOutdoor_tail (ih rest) fun a' offers => ?_
          rw [← Option.some.inj (mine.symm.trans offers)]
          exact younger
        · obtain rfl : a = o := Option.some.inj ((if_neg younger).symm.trans best)
          refine bestOutdoor_head mine fun b' youngest => ?_
          rw [← Option.some.inj (rest.symm.trans youngest)]
          exact Nat.le_of_not_lt younger

/-- R137: the own reading is used whatever its age. -/
theorem usableOutdoor_of_self {t : ShareTable} {e : Entry} {o : OutdoorReading}
    (self : t.self = some e) (reading : e.outdoor = some o) : t.usableOutdoor = some o.temp := by
  rw [ShareTable.usableOutdoor, self, Option.bind_some, reading]

/-- R20, R137: without an own reading, a peer's of at most 60 s. -/
theorem usableOutdoor_of_peer {t : ShareTable} (without : t.self.bind (·.outdoor) = none)
    {o : OutdoorReading} (best : peerOutdoor t.order = some o) :
    t.usableOutdoor = if o.age ≤ 60 then some o.temp else none := by
  rw [ShareTable.usableOutdoor, ShareTable.outdoorReading, without, best]

theorem usableOutdoor_of_none {t : ShareTable} (without : t.self.bind (·.outdoor) = none)
    (noPeer : peerOutdoor t.order = none) : t.usableOutdoor = none := by
  rw [ShareTable.usableOutdoor, ShareTable.outdoorReading, without, noPeer]

/-! ### Stages 6 and 7 -/

/-- R135: a demand at the ceiling that stands for it. -/
theorem ceiled_standing (c : ClaimClass) (z : ZoneLoop) (r : Resource) (d : Nat) :
    ceiled c (z.standingCeiling r) d =
      if c = .protection ∨ z.hold = .none then d
      else match z.ceiling.get r with
        | none => d
        | some limit => min d limit := by
  have lowered : ceiled c (z.standingCeiling r) d =
      if c = .protection then d else belowTarget (z.standingCeiling r) d := by
    cases c <;> rfl
  rw [lowered, ZoneLoop.standingCeiling]
  by_cases protection : c = .protection
  · exact (if_pos protection).trans (if_pos (.inl protection)).symm
  · refine (if_neg protection).trans ?_
    by_cases unheld : z.hold = .none
    · exact (congrArg (belowTarget · d) (if_pos unheld)).trans (if_pos (.inr unheld)).symm
    · refine (congrArg (belowTarget · d) (if_neg unheld)).trans ?_
      exact (if_neg (not_or_intro protection unheld)).symm

/-! ### The interlock -/

/-- R142: the interlock found standing, with the releases at its onset in MEMBER. -/
theorem evalInterlock_of_standing {s : State} {img : Image} {e : Entry}
    (self : s.stb.self = some e) (now : s.interlockNow img e = true) :
    s.evalInterlock img e = ((s.setZlp { s.zlp with interlock := true }).setStb { s.stb with
      self := some e.withoutValves }).setTxq
        (if s.zlp.interlock = false ∧ s.mbr.station = .member
          then s.txq.releasing e [.cool, .heat] else s.txq) := by
  have own : (s.setZlp { s.zlp with interlock := true }).mapSelf Entry.withoutValves =
      (s.setZlp { s.zlp with interlock := true }).setStb
        { s.stb with self := some e.withoutValves } := by
    rw [State.mapSelf, State.setZlp_stb, self]
    rfl
  rw [State.evalInterlock, now, own]
  by_cases onset : s.zlp.interlock = false ∧ s.mbr.station = .member
  · have begins : (!s.zlp.interlock && s.isMember) = true := by
      rw [Bool.and_eq_true, Bool.not_eq_true', isMember_iff]
      exact onset
    rw [if_pos onset, begins]
    exact (if_pos rfl).trans ((if_pos rfl).trans
      (forceRelease_two (e := e.withoutValves) (by exact rfl) .cool .heat))
  · rw [if_neg onset]
    refine (if_pos rfl).trans ((if_neg fun begins => onset ?_).trans rfl)
    rw [Bool.and_eq_true, Bool.not_eq_true', isMember_iff] at begins
    exact begins

end Sys2Proof.Machine
end

section
/-! SUPPORT. The control interval as a whole: the order of its events (R126, R189), and what its stages leave. -/

namespace Sys2Proof.Machine

/-! ### Events before a last one -/

/-- R189: one step of the entry of events: one that may enter goes first. -/
theorem mergeEvents_succ (fuel n : Nat) {evs : List Raised} (any : evs ≠ []) :
    ∃ e ∈ nextEvents evs, ∃ n', (mergeEvents (fuel + 1) n evs).1 =
      e.record :: (mergeEvents fuel n' (evs.erase e)).1 := by
  rw [mergeEvents]
  split
  · next none =>
    cases evs with
    | nil => exact absurd rfl any
    | cons x xs => cases none
  · next e one => exact ⟨e, by rw [one]; exact List.mem_singleton_self e, n, rfl⟩
  · next e e' es several =>
    refine ⟨_, ?_, n + 1, rfl⟩
    have inside : Config.freeChoice n % (es.length + 2) < (e :: e' :: es).length :=
      Nat.mod_lt _ (Nat.succ_pos _)
    rw [several, List.getD_eq_getElem _ _ inside]
    exact List.getElem_mem inside

/-- R189: an event that all the others precede may not enter while one of them waits. -/
theorem nextEvents_append {evs : List Raised} {d : Raised} (any : evs ≠ [])
    (last : ∀ a ∈ evs, a.origin.precedes d.origin = true) :
    nextEvents (evs ++ [d]) = nextEvents evs := by
  induction evs with
  | nil => exact absurd rfl any
  | cons a as ih =>
    have bars : (!a.origin.precedes d.origin) = false := by rw [last a List.mem_cons_self]; rfl
    refine congrArg (a :: ·) ?_
    cases as with
    | nil =>
      show List.filter (fun x => !a.origin.precedes x.origin) [d] = []
      rw [List.filter_singleton, bars]
      rfl
    | cons b bs =>
      exact congrArg (List.filter _)
        (ih (List.cons_ne_nil b bs) fun x member => last x (List.mem_cons_of_mem a member))

/-- R189: an event that all the others precede enters last. -/
theorem mergeEvents_append (evs : List Raised) (n : Nat) {d : Raised}
    (last : ∀ a ∈ evs, a.origin.precedes d.origin = true) :
    ∃ es : List EventRecord, es.Perm (evs.map (·.record)) ∧
      (mergeEvents (evs.length + 1) n (evs ++ [d])).1 = es ++ [d.record] := by
  generalize size : evs.length = k
  induction k generalizing evs n with
  | zero =>
    rw [List.length_eq_zero_iff.mp size]
    refine ⟨[], List.Perm.refl _, ?_⟩
    simp [mergeEvents, nextEvents]
  | succ k ih =>
    have any : evs ≠ [] := List.ne_nil_of_length_eq_add_one size
    obtain ⟨e, next, n', merged⟩ :=
      mergeEvents_succ (k + 1) n (List.append_ne_nil_of_left_ne_nil any [d])
    rw [nextEvents_append any last] at next
    have member := mem_of_mem_nextEvents next
    rw [List.erase_append_left [d] member] at merged
    obtain ⟨es, perm, rest⟩ := ih (evs.erase e) n'
      (fun a others => last a (List.mem_of_mem_erase others))
      (by rw [List.length_erase_of_mem member, size]; rfl)
    exact ⟨e.record :: es, perm_of_erase member perm, merged.trans (congrArg (e.record :: ·) rest)⟩

/-! ### What the stages leave -/

/-- R126: the part of the Zone Loop that only the first two stages of an interval change. -/
def ZoneLoop.looked (z : ZoneLoop) : ZoneLoop :=
  { z with
    activeMode := none, subMode := .none, block := none, integHeat := 0, integCool := 0
    demand := .all 0, classes := .all .comfort, switchTimer := none, boostTimer := none
    hold := .none, ceiling := .all none, holdTimer := none, frostTimer := none
    interlock := false, blowerDuty := 0 }

/-- R126: what every stage from the third on leaves. -/
structure Staged (s t : State) : Prop where
  outer : OuterSame s t
  stb : t.stb = { s.stb with self := t.stb.self }
  csr : t.csr = s.csr
  lnk : t.lnk = s.lnk
  mbr : t.mbr = { s.mbr with freezeWake := t.mbr.freezeWake }
  txq : t.txq = { s.txq with intents := t.txq.intents, replacements := t.txq.replacements }
  zlp : t.zlp.looked = s.zlp.looked
  lastWindow : t.dcc.fan.lastWindow = s.dcc.fan.lastWindow
  window : t.dcc.fan.window = s.dcc.fan.window

theorem Staged.trans {s t u : State} (h : Staged s t) (k : Staged t u) : Staged s u where
  outer := h.outer.trans k.outer
  stb := by rw [k.stb, h.stb]
  csr := k.csr.trans h.csr
  lnk := k.lnk.trans h.lnk
  mbr := by rw [k.mbr, h.mbr]
  txq := by rw [k.txq, h.txq]
  zlp := k.zlp.trans h.zlp
  lastWindow := k.lastWindow.trans h.lastWindow
  window := k.window.trans h.window

/-- Staged, and besides the mode, the hold, the events and the self entry stand. -/
structure Settled (s t : State) : Prop extends Staged s t where
  activeMode : t.zlp.activeMode = s.zlp.activeMode
  hold : t.zlp.hold = s.zlp.hold
  raised : t.raised = s.raised
  self : s.SelfStands t

theorem Settled.trans {s t u : State} (h : Settled s t) (k : Settled t u) : Settled s u where
  toStaged := h.toStaged.trans k.toStaged
  activeMode := k.activeMode.trans h.activeMode
  hold := k.hold.trans h.hold
  raised := k.raised.trans h.raised
  self := SelfStands.trans h.self k.self

/-- Settled, and besides the demand stands. -/
structure Concluded (s t : State) : Prop extends Settled s t where
  demand : t.zlp.demand = s.zlp.demand

theorem Concluded.trans {s t u : State} (h : Concluded s t) (k : Concluded t u) :
    Concluded s u where
  toSettled := h.toSettled.trans k.toSettled
  demand := k.demand.trans h.demand

theorem Concluded.ite {s t u : State} {p : Prop} [Decidable p] (h : Concluded s t)
    (k : Concluded s u) : Concluded s (if p then t else u) := by split <;> assumption

/-- The fan's tach windows stand. -/
def WindowsStand (s t : State) : Prop :=
  t.dcc.fan.lastWindow = s.dcc.fan.lastWindow ∧ t.dcc.fan.window = s.dcc.fan.window

/-- What a notice leaves, an interval's end leaves. -/
theorem TableNotice.concluded {s t : State} (h : TableNotice s t) (raised : t.raised = s.raised)
    (windows : WindowsStand s t) : Concluded s t where
  outer := h.notice.outer
  stb := h.notice.stb
  csr := h.notice.csr
  lnk := h.notice.lnk
  mbr := by rw [h.notice.mbr]
  txq := h.txq
  zlp := by rw [h.zlp]; rfl
  lastWindow := windows.1
  window := windows.2
  activeMode := by rw [h.zlp]
  hold := by rw [h.zlp]
  raised := raised
  self := h.self
  demand := by rw [h.zlp]

theorem Concluded.refl (s : State) : Concluded s s :=
  (TableNotice.refl s).concluded rfl ⟨rfl, rfl⟩

theorem concluded_ask (s : State) (i : Intent) : Concluded s (s.ask i) :=
  (ask_caps s i).table.concluded rfl ⟨rfl, rfl⟩

theorem concluded_forceRelease (s : State) (r : Resource) (n : Nat) :
    Concluded s (s.forceRelease r n) :=
  (forceRelease_caps s r n).table.concluded (forceRelease_caps s r n).raised
    (by rw [forceRelease_eq]; exact ⟨rfl, rfl⟩)

theorem concluded_evalInterlock (s : State) (img : Image) (e : Entry) :
    Concluded s (s.evalInterlock img e) :=
  (evalInterlock_caps s img e).table.concluded (evalInterlock_caps s img e).raised
    (by rw [evalInterlock_eq]; exact ⟨rfl, rfl⟩)

theorem concluded_recomputeCaps (s : State) : Concluded s s.recomputeCaps := by
  obtain ⟨stall, run, fan, -⟩ := recomputeCaps_fan s
  exact (recomputeCaps_caps s).table.concluded (recomputeCaps_caps s).raised
    ⟨by rw [fan], by rw [fan]⟩

theorem concluded_setTarget (s : State) (r : Resource) (t : Option Nat) :
    Concluded s (s.setTarget r t) := (setTarget_table s r t).concluded rfl ⟨rfl, rfl⟩

theorem concluded_offerTarget (s : State) (r : Resource) (t : Nat) :
    Concluded s (s.offerTarget r t) :=
  (((concluded_setTarget s r _).trans (concluded_recomputeCaps _)).trans
    (concluded_ask _ _)).ite (.refl s)

theorem concluded_computeCut (s : State) (r : Resource) : Concluded s (s.computeCut r) := by
  unfold State.computeCut
  split
  · exact .refl s
  · exact (concluded_offerTarget s r _).ite (.refl s)

theorem concluded_decideClaim (s : State) (r : Resource) : Concluded s (s.decideClaim r) := by
  unfold State.decideClaim
  split
  · exact .refl s
  · exact (concluded_ask s _).ite ((concluded_ask s _).ite (.refl s))

theorem concluded_cutAgain (s : State) (r : Resource) : Concluded s (s.cutAgain r) :=
  (concluded_computeCut s r).ite (.refl s)

theorem concluded_yieldShare (s : State) (r : Resource) : Concluded s (s.yieldShare r) := by
  unfold State.yieldShare
  split
  · exact .refl s
  · exact (concluded_offerTarget s r _).ite (.refl s)

theorem concluded_eachResource {f : State → Resource → State}
    (each : ∀ s r, Concluded s (f s r)) (s : State) : Concluded s (s.eachResource f) :=
  ((each s .cool).trans (each _ .heat)).trans (each _ .power)

theorem concluded_pushDamper (s : State) (target : Nat) : Concluded s (s.pushDamper target) where
  outer := outer_pushDamper s target
  stb := rfl
  csr := rfl
  lnk := rfl
  mbr := rfl
  txq := rfl
  zlp := rfl
  lastWindow := rfl
  window := rfl
  activeMode := rfl
  hold := rfl
  raised := rfl
  self := .inl rfl
  demand := rfl

/-- R126: caps, damper target, claim, cut and yield: the end of an interval. -/
theorem concluded_end (s : State) (target : Nat) :
    Concluded s ((((s.recomputeCaps.pushDamper target).eachResource
      State.decideClaim).eachResource State.cutAgain).eachResource State.yieldShare) :=
  ((((concluded_recomputeCaps s).trans (concluded_pushDamper _ _)).trans
    (concluded_eachResource concluded_decideClaim _)).trans
    (concluded_eachResource concluded_cutAgain _)).trans
    (concluded_eachResource concluded_yieldShare _)

/-! ### The stages in the middle -/

theorem staged_setZlp (s : State) (z : ZoneLoop) (same : z.looked = s.zlp.looked := by rfl) :
    Staged s (s.setZlp z) where
  outer := outer_setZlp s z
  stb := rfl
  csr := rfl
  lnk := rfl
  mbr := rfl
  txq := rfl
  zlp := same
  lastWindow := rfl
  window := rfl

theorem settled_setZlp (s : State) (z : ZoneLoop) (same : z.looked = s.zlp.looked := by rfl)
    (activeMode : z.activeMode = s.zlp.activeMode := by rfl)
    (hold : z.hold = s.zlp.hold := by rfl) : Settled s (s.setZlp z) where
  toStaged := staged_setZlp s z same
  activeMode := activeMode
  hold := hold
  raised := rfl
  self := .inl rfl

theorem Settled.ite {s t u : State} {p : Prop} [Decidable p] (h : Settled s t)
    (k : Settled s u) : Settled s (if p then t else u) := by split <;> assumption

theorem settled_withLoop (s : State) (t : Timer) (r : Resource) (i d : Nat) :
    Settled s (s.setZlp (ZoneLoop.withLoop { s.zlp with boostTimer := t } r i d)) := by
  cases r with
  | heat => exact settled_setZlp s _
  | cool => exact settled_setZlp s _
  | power => exact settled_setZlp s _

theorem settled_stageLoop (s : State) (img : Image) : Settled s (s.stageLoop img) := by
  unfold State.stageLoop
  dsimp only
  split
  · exact settled_setZlp s _
  · split
    · exact settled_setZlp s _
    · exact settled_withLoop s _ _ _ _

theorem settled_frostSeen (s : State) (e : Entry) : Settled s (s.frostSeen e) := by
  have timed : Settled s (s.setZlp { s.zlp with frostTimer := s.after Config.frostTime }) :=
    settled_setZlp s _
  exact ((timed.trans (concluded_forceRelease _ _ _).toSettled).ite timed).ite
    (Concluded.refl s).toSettled

theorem settled_stageFrost (s : State) (e : Entry) : Settled s (s.stageFrost e) := by
  rw [stageFrost_of_seen, frostGuarded_eq]
  exact (settled_frostSeen s e).trans (settled_setZlp _ _)

/-- R126: stages 4 to 9. -/
theorem settled_stages (s : State) (img : Image) (e : Entry) :
    Settled s (((((((s.stageLoop img).stageFrost e).stageCeilings).stagePower img e).stageClasses
      img e).evalInterlock img e)) :=
  (((((settled_stageLoop s img).trans (settled_stageFrost _ e)).trans (settled_setZlp _ _)).trans
    (settled_setZlp _ _)).trans (settled_setZlp _ _)).trans
    (concluded_evalInterlock _ img e).toSettled

/-! ### The mode -/

theorem autoMode_looked (z : ZoneLoop) (mode : SetMode) (start : Timer) :
    (z.autoMode mode start).looked = z.looked := by
  unfold ZoneLoop.autoMode
  split
  · rfl
  · split
    · rfl
    · split
      · rfl
      · split <;> rfl

theorem autoMode_hold (z : ZoneLoop) (mode : SetMode) (start : Timer) :
    (z.autoMode mode start).hold = z.hold := by
  unfold ZoneLoop.autoMode
  split
  · rfl
  · split
    · rfl
    · split
      · rfl
      · split <;> rfl

/-- R128, R129: the freeze wake and AUTO looked at, with a mode `m` taken up. -/
theorem settled_modeLooked (s : State) (p : SetpointRecord) (m : ZoneMode) {z : ZoneLoop}
    (same : z.looked = (s.modeLooked p).zlp.looked) (active : z.activeMode = some m)
    (hold : z.hold = (s.modeLooked p).zlp.hold) :
    Settled (s.setZlp { s.zlp with activeMode := some m }) ((s.modeLooked p).setZlp z) where
  outer := by constructor <;> rfl
  stb := rfl
  csr := rfl
  lnk := rfl
  mbr := rfl
  txq := rfl
  zlp := same.trans (autoMode_looked _ _ _)
  lastWindow := rfl
  window := rfl
  activeMode := active
  hold := hold.trans (autoMode_hold _ _ _)
  raised := rfl
  self := .inl rfl

theorem settled_releaseUnused (s : State) (m : ZoneMode) (r : Resource) :
    Settled s (s.releaseUnused m r) :=
  (Concluded.refl s).toSettled.ite (concluded_forceRelease s r 0).toSettled

/-- R128 to R130: stage 3, as from the state with the mode it wants. -/
theorem settled_stageMode (s : State) (p : SetpointRecord) (e : Entry) :
    Settled (s.setZlp { s.zlp with activeMode := some (s.wantedMode p) }) (s.stageMode p e) := by
  by_cases same : s.zlp.activeMode = some (s.wantedMode p)
  · rw [stageMode_of_same same]
    exact settled_modeLooked s p _ rfl ((autoMode_activeMode _ _ _).trans same) rfl
  · rw [stageMode_of_other same, State.changeover]
    refine .trans (.trans (.trans ?_ (settled_releaseUnused _ _ .cool))
      (settled_releaseUnused _ _ .heat)) (settled_releaseUnused _ _ .power)
    exact settled_modeLooked s p _ rfl rfl rfl

end Sys2Proof.Machine
end

section
/-! SUPPORT. CONTROL_INTERVAL_EXPIRY in MEMBER: its events, its published entry and what its last stages leave. -/

namespace Sys2Proof.Machine

/-! ### The door at the first interval -/

/-- R134: the DOOR_HOLD event of an interval, as it waits to be entered. -/
def State.doorRaised (s : State) (img : Image) (first : Bool) : List Raised :=
  if first && img.doorEnabled && s.zlp.doorActive && decide (s.zlp.hold = .none)
  then [{ origin := zlpOrigin, record := s.event .doorHold none none (some 1) }] else []

theorem doorRaised_records (s : State) (img : Image) :
    (s.doorRaised img s.zlp.activeMode.isNone).map (·.record) = s.doorEvents img := by
  unfold State.doorRaised State.doorEvents
  cases s.zlp.activeMode.isNone && img.doorEnabled && s.zlp.doorActive &&
    decide (s.zlp.hold = .none) <;> rfl

/-- R134: the door found active at the first interval opens the hold and says so. -/
theorem doorAtFirst_eq {s : State} {e : Entry} (self : s.stb.self = some e) (img : Image)
    (first : Bool) :
    ∃ z : ZoneLoop, s.doorAtFirst img first =
        (s.setZlp z).setRaised (s.raised ++ s.doorRaised img first) ∧
      z.looked = s.zlp.looked ∧ z.activeMode = s.zlp.activeMode ∧ z.demand = s.zlp.demand := by
  unfold State.doorAtFirst State.doorRaised
  cases first && img.doorEnabled && s.zlp.doorActive && decide (s.zlp.hold = .none) with
  | true =>
    rw [if_pos rfl, if_pos rfl, openHold_of_self self]
    exact ⟨_, rfl, rfl, rfl, rfl⟩
  | false =>
    rw [if_neg Bool.false_ne_true, if_neg Bool.false_ne_true, List.append_nil]
    exact ⟨_, rfl, rfl, rfl, rfl⟩

/-! ### The events of an interval -/

/-- R126: every SENSOR_FAULT of an interval precedes its DOOR_HOLD. -/
theorem faultsRaised_precede (s : State) (img : Image) {a : Raised}
    (member : a ∈ s.faultsRaised img) : a.origin.precedes zlpOrigin = true := by
  have each (p : Bool) (code : Nat) (among : a ∈ if p then [s.faultRaised code] else []) :
      a.origin.precedes zlpOrigin = true := by
    cases p with
    | false => exact absurd among List.not_mem_nil
    | true =>
      rw [List.mem_singleton.mp among]
      show (_ || (true && true && (_ || true))) = true
      rw [Bool.or_true, Bool.and_true, Bool.and_true, Bool.or_true]
  rw [State.faultsRaised, List.mem_append, List.mem_append] at member
  rcases member with (zone | discharge) | outdoor
  · exact each _ 1 zone
  · exact each _ 2 discharge
  · exact each _ 3 outdoor

/-- R126, R189: the SENSOR_FAULT events enter in some order, then the DOOR_HOLD. -/
theorem flush_svc_of_interval {s x : State} {img : Image}
    (raised : x.raised = s.faultsRaised img ++ s.doorRaised img s.zlp.activeMode.isNone) :
    ∃ es : List EventRecord, es.Perm (s.faultEvents img) ∧
      x.flush.svc = (es ++ s.doorEvents img).foldl ServiceLine.post x.svc := by
  rw [← doorRaised_records, ← faultsRaised_records]
  unfold State.doorRaised at raised ⊢
  cases opens : s.zlp.activeMode.isNone && img.doorEnabled && s.zlp.doorActive &&
      decide (s.zlp.hold = .none) with
  | false =>
    rw [opens, if_neg Bool.false_ne_true, List.append_nil] at raised
    obtain ⟨es, perm, svc⟩ := x.flush_svc_perm
    rw [raised] at perm
    exact ⟨es, perm, svc.trans (by rw [if_neg Bool.false_ne_true, List.map_nil, List.append_nil])⟩
  | true =>
    rw [opens, if_pos rfl] at raised
    obtain ⟨es, perm, merged⟩ := mergeEvents_append (s.faultsRaised img) x.freeCount
      (d := { origin := zlpOrigin, record := s.event .doorHold none none (some 1) })
      fun a member => faultsRaised_precede s img member
    refine ⟨es, perm, ?_⟩
    show (mergeEvents x.raised.length x.freeCount x.raised).1.foldl ServiceLine.post x.svc = _
    rw [raised, List.length_append, List.length_singleton, merged]
    rfl

/-! ### The published entry -/

/-- R3, R142: the self entry that an interval publishes, with its valves' demands as the interlock leaves them. -/
theorem published_of_stands {t x : State} {e : Entry} {z : ZoneLoop} {img : Image}
    (self : t.stb.self = some (e.atInterval z img)) (stands : t.SelfStands x) :
    ∃ e', x.stb.self = some e' ∧ e'.committed = e.committed ∧ e'.zoneTemp = z.zone.temp ∧
      e'.mode = z.activeMode ∧ e'.demand.power = some z.demand.power ∧ e'.floor = e.floor ∧
      e'.weight = e.weight ∧ e'.lastClass = e.lastClass ∧ e'.shed = e.shed ∧
      e'.outdoor = z.outdoorNow img := by
  rcases stands with same | valveless
  · exact ⟨_, same.trans self, rfl, rfl, rfl, rfl, rfl, rfl, rfl, rfl, rfl⟩
  · exact ⟨_, valveless.trans (congrArg _ self), rfl, rfl, rfl, rfl, rfl, rfl, rfl, rfl, rfl⟩

theorem stageEntry_eq (s : State) (img : Image) (e : Entry) :
    s.stageEntry img e = (s.mapSelf fun x => x.atInterval s.zlp img).setTxq
      (s.stageEntry img e).txq := by
  unfold State.stageEntry
  split <;> rfl

theorem staged_stageEntry (s : State) (img : Image) (e : Entry) :
    Staged s (s.stageEntry img e) := by
  have published : Staged s (s.mapSelf fun x => x.atInterval s.zlp img) :=
    { outer := (mapSelf_notice s _).outer, stb := rfl, csr := rfl, lnk := rfl, mbr := rfl
      txq := rfl, zlp := rfl, lastWindow := rfl, window := rfl }
  unfold State.stageEntry
  split
  · exact published.trans (concluded_ask _ _).toStaged
  · exact published

theorem stageEntry_self {s t : State} {e : Entry} (self : s.stb.self = some e)
    (stands : s.SelfStands t) (img : Image) :
    (t.stageEntry img e).stb.self = some (e.atInterval t.zlp img) := by
  rw [stageEntry_eq]
  show t.stb.self.map (fun x => x.atInterval t.zlp img) = _
  rcases stands with same | valveless
  · rw [same, self]
    rfl
  · rw [valveless, self]
    rfl

/-! ### The interval from its third stage on -/

/-- R126: stages 3 to 9. -/
def State.toInterlock (b : State) (img : Image) (p : SetpointRecord) (e : Entry) : State :=
  ((((((b.stageMode p e).stageLoop img).stageFrost e).stageCeilings).stagePower img e).stageClasses
    img e).evalInterlock img e

/-- R126: the rest, from stage 10 on. -/
def State.fromEntry (t : State) (img : Image) (e : Entry) (first : Bool) (target : Nat) : State :=
  ((((((t.stageEntry img e).doorAtFirst img first).recomputeCaps).pushDamper target).eachResource
    State.decideClaim).eachResource State.cutAgain).eachResource State.yieldShare

theorem settled_toInterlock (b : State) (img : Image) (p : SetpointRecord) (e : Entry) :
    Settled (b.setZlp { b.zlp with activeMode := some (b.wantedMode p) })
      (b.toInterlock img p e) :=
  (settled_stageMode b p e).trans (settled_stages _ img e)

/-- R126: what the rest of an interval leaves and publishes. -/
theorem fromEntry_leaves {b t : State} {e : Entry} (self : b.stb.self = some e)
    (stands : b.SelfStands t) (img : Image) (first : Bool) (target : Nat) :
    Staged t (t.fromEntry img e first target) ∧
      (t.fromEntry img e first target).zlp.activeMode = t.zlp.activeMode ∧
      (t.fromEntry img e first target).raised = t.raised ++ t.doorRaised img first ∧
      ∃ e', (t.fromEntry img e first target).stb.self = some e' ∧ e'.committed = e.committed ∧
        e'.zoneTemp = t.zlp.zone.temp ∧ e'.mode = t.zlp.activeMode ∧
        e'.demand.power = some (t.fromEntry img e first target).zlp.demand.power ∧
        e'.floor = e.floor ∧ e'.weight = e.weight ∧ e'.lastClass = e.lastClass ∧
        e'.shed = e.shed ∧ e'.outdoor = t.zlp.outdoorNow img := by
  have entered := staged_stageEntry t img e
  have own := stageEntry_self self stands img
  have zlp : (t.stageEntry img e).zlp = t.zlp := by rw [stageEntry_eq]; rfl
  have raised : (t.stageEntry img e).raised = t.raised := by rw [stageEntry_eq]; rfl
  have event : (t.stageEntry img e).doorRaised img first = t.doorRaised img first := by
    rw [stageEntry_eq]
    rfl
  obtain ⟨z, door, looked, activeMode, demand⟩ := doorAtFirst_eq own img first
  have ended := concluded_end ((t.stageEntry img e).doorAtFirst img first) target
  change Concluded _ (t.fromEntry img e first target) at ended
  rw [event, raised] at door
  rw [zlp] at activeMode demand
  have opened : Staged (t.stageEntry img e) ((t.stageEntry img e).doorAtFirst img first) := by
    rw [door]
    exact (staged_setZlp _ z looked).trans
      { outer := by constructor <;> rfl, stb := rfl, csr := rfl, lnk := rfl, mbr := rfl
        txq := rfl, zlp := rfl, lastWindow := rfl, window := rfl }
  have publishes := published_of_stands (t := (t.stageEntry img e).doorAtFirst img first)
    (by rw [door]; exact own) ended.self
  have power : (t.fromEntry img e first target).zlp.demand = t.zlp.demand := by
    rw [ended.demand, door]
    exact demand
  rw [power]
  exact ⟨(entered.trans opened).trans ended.toStaged,
    ended.activeMode.trans (by rw [door]; exact activeMode),
    ended.raised.trans (by rw [door]; rfl), publishes⟩

end Sys2Proof.Machine
end

section
/-! SUPPORT. CONTROL_INTERVAL_EXPIRY in MEMBER: its first stages and its mode. -/

namespace Sys2Proof.Machine

/-! ### The first two stages -/

/-- R126, R159: the interval begins: the next one is set and the tach window closes. -/
def State.intervalBegun (s : State) : State :=
  (s.setZlp { s.zlp with controlTimer := some (s.clock + Config.controlInterval) }).setDcc
    { s.dcc with fan := { s.dcc.fan with lastWindow := s.dcc.fan.window, window := 0 } }

/-- R124, R127: the interval with its fault states and its target. -/
def State.targeted (s : State) (img : Image) (p : SetpointRecord) : State :=
  (s.intervalBegun.stageFaults img).stageTarget img p

theorem settled_returnFaultRelease (s : State) (was now : Bool) :
    Settled s (s.returnFaultRelease was now) :=
  ((concluded_forceRelease s _ _).trans (concluded_forceRelease _ _ _)).toSettled.ite
    (Concluded.refl s).toSettled

/-- R124: stage 1, as from the state with the fault states set and their events raised. -/
theorem settled_stageFaults (s : State) (img : Image) :
    Settled ((s.setZlp (s.zlp.faulted img)).setRaised (s.raised ++ s.faultsRaised img))
      (s.stageFaults img) := by
  rw [State.stageFaults, raiseFault_eq, raiseFault_eq, raiseFault_eq, State.faultsRaised,
    ← List.append_assoc, ← List.append_assoc]
  exact settled_returnFaultRelease _ _ _

/-- R126: the interval, by its parts. -/
theorem interval_eq {s : State} {img : Image} {p : SetpointRecord} {e : Entry}
    (member : s.mbr.station = .member) (due : s.zlp.controlTimer.isSome = true)
    (image : s.cfg.image = some img) (record : s.csr.setpoint = some p)
    (self : s.stb.self = some e) :
    s.interval = ((s.targeted img p).toInterlock img p e).fromEntry img e s.zlp.activeMode.isNone
      (((((s.targeted img p).stageMode p e).stageLoop img).stageFrost e).damperTarget img) := by
  obtain ⟨t, timer⟩ := Option.isSome_iff_exists.mp due
  rw [State.interval, timer, image, record, self]
  exact if_pos ((isMember_iff s).mpr member)

/-! ### From the first stage to the last -/

theorem Settled.withTarget {s t : State} (h : Settled s t) (target : Option Int) :
    Settled (s.setZlp { s.zlp with target := target }) (t.setZlp { t.zlp with target := target }) :=
  { h with
    outer := ⟨h.outer.sup, h.outer.cfg, h.outer.svc, h.outer.clock, h.outer.pending⟩
    zlp := congrArg (fun z => { z with target := target }) h.zlp }

theorem Settled.withMode {s t : State} (h : Settled s t) (m : ZoneMode) :
    Settled (s.setZlp { s.zlp with activeMode := some m })
      (t.setZlp { t.zlp with activeMode := some m }) :=
  { h with
    outer := ⟨h.outer.sup, h.outer.cfg, h.outer.svc, h.outer.clock, h.outer.pending⟩
    activeMode := rfl }

/-- R124 to R128: what an interval sets before its loops: the next interval, the fault states, the target and the mode. -/
def State.intervalSet (s : State) (img : Image) (p : SetpointRecord) (m : ZoneMode) : State :=
  (s.intervalBegun.setZlp { s.zlp with
    controlTimer := some (s.clock + Config.controlInterval)
    zoneFault := s.zlp.zone.bad
    dischargeFault := s.zlp.discharge.bad
    outdoorFault := img.outdoorPresent && s.zlp.outdoor.bad
    target := some (targetOf p.value img.zoneOffset s.svc.offset)
    activeMode := some m }).setRaised (s.raised ++ s.faultsRaised img)

/-- R124: stage 1 leaves the station, the Service Line and the zone's reading. -/
theorem targeted_eq {s : State} {e : Entry} (self : s.stb.self = some e) (img : Image)
    (p : SetpointRecord) :
    (s.targeted img p).mbr = s.mbr ∧ (s.targeted img p).zlp.zone = s.zlp.zone ∧
      (s.intervalBegun.stageFaults img).svc = s.svc := by
  obtain ⟨q, faults⟩ : ∃ q, s.intervalBegun.stageFaults img =
      ((s.intervalBegun.setZlp (s.intervalBegun.zlp.faulted img)).setRaised
        (s.intervalBegun.raised ++ s.intervalBegun.faultsRaised img)).setTxq q :=
    ⟨_, stageFaults_eq (e := e) (by exact self) img⟩
  unfold State.targeted State.stageTarget
  rw [faults]
  simp only [State.setZlp_mbr, State.setTxq_mbr, State.setRaised_mbr, State.setZlp_zlp,
    State.setTxq_zlp, State.setRaised_zlp, State.setTxq_svc, State.setRaised_svc, State.setZlp_svc]
  exact ⟨rfl, rfl, rfl⟩

/-- R126: stages 1 to 9, as from the state with what they set. -/
theorem settled_middle {s : State} {e : Entry} (self : s.stb.self = some e) (img : Image)
    (p : SetpointRecord) :
    Settled (s.intervalSet img p ((s.targeted img p).wantedMode p))
      ((s.targeted img p).toInterlock img p e) := by
  have faults := settled_stageFaults s.intervalBegun img
  have target := faults.withTarget
    (some (targetOf p.value img.zoneOffset (s.intervalBegun.stageFaults img).svc.offset))
  have mode := target.withMode ((s.targeted img p).wantedMode p)
  obtain ⟨-, -, svc⟩ := targeted_eq self img p
  have whole := mode.trans (settled_toInterlock (s.targeted img p) img p e)
  rw [svc] at whole
  exact whole

/-- R134: the DOOR_HOLD event is that of the state at the interval's begin. -/
theorem doorRaised_of_settled {s t : State} (settled : Settled s t) (img : Image)
    (first : Bool) : t.doorRaised img first = s.doorRaised img first := by
  have active : t.zlp.doorActive = s.zlp.doorActive := by
    have looked := congrArg ZoneLoop.doorActive settled.zlp
    exact looked
  rw [State.doorRaised, active, settled.hold, State.event, State.eventTime, settled.outer.clock]
  rfl

/-! ### The mode of an interval -/

/-- R128: without a freeze wake the record's mode is taken. -/
theorem wantedMode_of_awake {b : State} {p : SetpointRecord} (awake : b.mbr.freezeWake = false)
    (fixed : p.mode ≠ .auto) :
    b.wantedMode p = match p.mode with
      | .off => .off
      | .vent => .vent
      | .heat => .heat
      | .cool => .cool
      | .auto => .heat := by
  have thawed : keepsFreeze b.mbr.freezeWake b.zlp.zone ≠ true := by
    rw [Ne, keepsFreeze_iff, awake]
    exact fun keeps => Bool.false_ne_true keeps.1
  rw [State.wantedMode, if_neg thawed, activeOf_eq]
  cases mode : p.mode with
  | auto => exact absurd mode fixed
  | off => rfl
  | vent => rfl
  | heat => rfl
  | cool => rfl

/-- R128: a freeze wake heats until the zone is at 8 degrees. -/
theorem wantedMode_of_freeze {b : State} {p : SetpointRecord} (freeze : b.mbr.freezeWake = true)
    (cold : ∀ x, b.zlp.zone = .valid x → x < 80) : b.wantedMode p = .heat :=
  if_pos ((keepsFreeze_iff _ _).mpr ⟨freeze, cold⟩)

end Sys2Proof.Machine
end

section
/-! PROOF. CONTROL_INTERVAL_EXPIRY in MEMBER (R126), and its stages one by one. -/

namespace Sys2Proof.Machine

/-- R126: what an interval leaves, sets and publishes, before its events enter. -/
theorem interval_leaves {s : State} {img : Image} {p : SetpointRecord} {e : Entry}
    (quiet : s.raised = []) (member : s.mbr.station = .member)
    (due : s.zlp.controlTimer.isSome = true) (image : s.cfg.image = some img)
    (record : s.csr.setpoint = some p) (self : s.stb.self = some e) :
    Staged (s.intervalSet img p ((s.targeted img p).wantedMode p)) s.interval ∧
      s.interval.zlp.activeMode = some ((s.targeted img p).wantedMode p) ∧
      s.interval.raised = s.faultsRaised img ++ s.doorRaised img s.zlp.activeMode.isNone ∧
      ∃ e', s.interval.stb.self = some e' ∧ e'.committed = e.committed ∧
        e'.zoneTemp = s.zlp.zone.temp ∧ e'.mode = s.interval.zlp.activeMode ∧
        e'.demand.power = some s.interval.zlp.demand.power ∧ e'.floor = e.floor ∧
        e'.weight = e.weight ∧ e'.lastClass = e.lastClass ∧ e'.shed = e.shed ∧
        e'.outdoor = s.zlp.outdoorNow img := by
  have middle := settled_middle self img p
  have own : (s.intervalSet img p ((s.targeted img p).wantedMode p)).stb.self = some e := self
  have parts := interval_eq member due image record self
  generalize (s.targeted img p).toInterlock img p e = t at middle parts
  obtain ⟨left, mode, raised, e', self', committed, zoneTemp, published, power, floor, weight,
    lastClass, shed, outdoor⟩ := fromEntry_leaves own middle.self img s.zlp.activeMode.isNone
      (((((s.targeted img p).stageMode p e).stageLoop img).stageFrost e).damperTarget img)
  rw [← parts] at left mode raised self' power
  rw [doorRaised_of_settled middle, middle.raised] at raised
  have zone : t.zlp.zone = s.zlp.zone := by
    have looked := congrArg ZoneLoop.zone middle.zlp
    exact looked
  have air : t.zlp.outdoor = s.zlp.outdoor := by
    have looked := congrArg ZoneLoop.outdoor middle.zlp
    exact looked
  refine ⟨middle.toStaged.trans left, mode.trans middle.activeMode, raised.trans ?_, e', self',
    committed, by rw [zoneTemp, zone], published.trans mode.symm, power, floor, weight, lastClass,
    shed, outdoor.trans ?_⟩
  · show s.raised ++ s.faultsRaised img ++ s.doorRaised img s.zlp.activeMode.isNone = _
    rw [quiet, List.nil_append]
  · rw [ZoneLoop.outdoorNow, air]
    rfl

/-- What the first two stages set, at an interval's end. -/
theorem Staged.looks {s t : State} (h : Staged s t) :
    t.zlp.controlTimer = s.zlp.controlTimer ∧ t.zlp.target = s.zlp.target ∧
      t.zlp.zoneFault = s.zlp.zoneFault ∧ t.zlp.dischargeFault = s.zlp.dischargeFault ∧
      t.zlp.outdoorFault = s.zlp.outdoorFault := by
  have controlTimer := congrArg ZoneLoop.controlTimer h.zlp
  have target := congrArg ZoneLoop.target h.zlp
  have zone := congrArg ZoneLoop.zoneFault h.zlp
  have discharge := congrArg ZoneLoop.dischargeFault h.zlp
  have outdoor := congrArg ZoneLoop.outdoorFault h.zlp
  exact ⟨controlTimer, target, zone, discharge, outdoor⟩

/-- The queue's timers, at an interval's end. -/
theorem Staged.timers {s t : State} (h : Staged s t) :
    t.txq.step = s.txq.step ∧ t.txq.holdOff = s.txq.holdOff ∧ t.txq.spacing = s.txq.spacing := by
  rw [h.txq]
  exact ⟨rfl, rfl, rfl⟩

/-- R142: when the interlock evaluates to stand. -/
theorem interlockNow_iff (s : State) (img : Image) (e : Entry) :
    s.interlockNow img e = true ↔
      s.blowerCap img e < img.airflowMin ∨ s.dcc.fan.condition ≠ .running := by
  rw [State.interlockNow, Bool.or_eq_true, decide_eq_true_iff, decide_eq_true_iff]

/-- Settles O48: the interval as a whole, then its stages in order. -/
theorem intervalRuns : Obligations.IntervalRuns := by
  refine ⟨fun s img p e ready member due image record self => ?_, fun s img e self => ?_,
    fun s e self => ⟨frost_iff s.zlp, economises_iff s, stageFrost_eq self⟩, damperTarget_eq,
    fun t => ⟨fun e o self reading => usableOutdoor_of_self self reading, fun without =>
      ⟨fun noPeer => ?_, fun o best => ⟨?_, ?_⟩⟩⟩, fun s => ?_, fun s img e => ?_,
    fun s img e self => ⟨rfl, ?_⟩⟩
  · obtain ⟨left, mode, raised, publishes⟩ :=
      interval_leaves ready.2 member due image record self
    obtain ⟨mbr, zone, -⟩ := targeted_eq self img p
    obtain ⟨es, perm, svc⟩ := flush_svc_of_interval raised
    have parts := interval_eq member due image record self
    have outer := left.outer
    have port := flush_port s.interval
    obtain ⟨controlTimer, target, zoneFault, dischargeFault, outdoorFault⟩ := left.looks
    obtain ⟨step, holdOff, spacing⟩ := left.timers
    have runs : exec .controlIntervalExpiry s = .next s.interval.flush :=
      exec_of_running ready.1 .controlIntervalExpiry
    generalize s.interval = x at *
    have entered : x.flush.svc = (es ++ s.doorEvents img).foldl ServiceLine.post s.svc := by
      rw [svc, outer.svc]
      rfl
    refine ⟨x.flush, runs,
      congrArg State.flush parts, ⟨es, perm, entered⟩, controlTimer, target,
      fun awake fixed => mode.trans (congrArg some
        (wantedMode_of_awake (by rw [mbr]; exact awake) fixed)),
      fun freeze cold => mode.trans (congrArg some
        (wantedMode_of_freeze (by rw [mbr]; exact freeze) (by rw [zone]; exact cold))),
      zoneFault, dischargeFault, outdoorFault, publishes, left.stb, left.lastWindow, left.window,
      left.mbr, left.csr, left.lnk, outer.sup, outer.cfg, outer.clock, outer.pending, ?_, step,
      holdOff, spacing⟩
    unfold State.PortStands at port ⊢
    rw [outer.svc] at port
    exact port
  · rw [stageFaults_eq self]
    rfl
  · exact usableOutdoor_of_none without noPeer
  · exact usableOutdoor_of_peer without best
  · obtain ⟨before, e, after, split, offers, ahead, behind⟩ := bestOutdoor_of_peerOutdoor best
    obtain ⟨present, reading⟩ := (offered_eq_some_iff e o).mp offers
    exact ⟨before, e, after, split, present, reading,
      fun x among o' here reading => ahead x among o' ((offered_eq_some_iff x o').mpr ⟨here, reading⟩),
      fun x among o' here reading =>
        behind x among o' ((offered_eq_some_iff x o').mpr ⟨here, reading⟩)⟩
  · rw [State.stageCeilings, ceiled_standing, ceiled_standing] <;> rfl
  · rw [State.stagePower, ceiled_standing]
    rfl
  · have now := interlockNow_iff s img e
    by_cases stands : s.blowerCap img e < img.airflowMin ∨ s.dcc.fan.condition ≠ .running
    · exact (evalInterlock_of_standing self (now.mpr stands)).trans (if_pos stands).symm
    · exact (if_neg (mt now.mp stands)).trans (if_neg stands).symm

end Sys2Proof.Machine
end
